-- ==== Sys2Proof/Word.lean ====
section
/-! DEFINITION. The words of the saloon link and of the configuration record: bytes and two-byte values. -/

namespace Sys2Proof

/-- One byte of a message or of the configuration record (10.1, 10.2). -/
abbrev Byte := BitVec 8

/-- A value of two bytes (10.1). -/
abbrev Word := BitVec 16

/-- Whether a flag is set, as the number 1 or 0 of a coded bit or byte. -/
def bit (b : Bool) : Nat := if b then 1 else 0

end Sys2Proof
end

