-- ==== Sys2Proof/Config.lean ====
section
/-! DEFINITION. The configuration values in use as a type, and the free values: what the spec leaves open, as constants
without a body. The numbers the spec fixes are in Machine/Constants.lean. -/

namespace Sys2Proof

/-- The configuration values in use (R168), each in the unit of 00's table of configuration symbols. -/
structure Settings where
  /-- Z, number of zones. -/
  zones          : Nat
  /-- P, report period in ms. -/
  period         : Nat
  /-- S_n, stages fitted. -/
  stages         : Nat
  /-- Ps, power of one stage in W. -/
  stagePower     : Nat
  /-- CR, cooling rating in cu. -/
  coolRating     : Nat
  /-- Qc, coolant share of heating. -/
  coolantShare   : Nat
  offset         : Int
  kp             : Nat
  ki             : Nat
  /-- DB, dead band. -/
  deadBand       : Nat
  fanMin         : Nat
  fanHeatMin     : Nat
  ventSpeed      : Nat
  minFresh       : Nat
  /-- r_el, electric reserve demand in W. -/
  reserveEl      : Nat
  /-- r_c, cooling reserve demand in cu. -/
  reserveC       : Nat
  /-- Blind electric budget in W. -/
  blindBudget    : Nat
  /-- Blind cooling capacity in cu. -/
  blindCooling   : Nat
  supplyEntry    : Nat
  supplyExit     : Nat
  trimRet        : Int
  trimDischarge  : Int
  trimCoil       : Int
  trimFresh      : Int
  doorZone       : Bool
  followAdjacent : Bool
  freshFitted    : Bool
  deriving DecidableEq, Repr

namespace Config

/-- FREE VALUE, the default of door zone (log 9): 00 gives none. -/
opaque defaultDoorZone : Bool

/-- FREE VALUE, the default of follow adjacent door (log 9): 00 gives none. -/
opaque defaultFollowAdjacent : Bool

/-- FREE VALUE, the default of FRESH fitted (log 9): 00 gives none. -/
opaque defaultFreshFitted : Bool

/-- FREE VALUE, which of the events that come due together is taken first (log 3), applied to a counter. -/
opaque tieChoice : Nat → Nat

/-- The state values of READ_STATUS for which 10.1 gives no code. -/
inductive Coded where
  | starting | phaseReading | phaseListening | causeCold | causePin | causeRestart
  | channelGood | channelFault | kindNone | kindShort | kindOpen
  | outsideOwn | outsidePeers | outsideHeld | outsideDefault
  | recordHeard | recordSilent | coolantHot | coolantCold
  | returnOwn | returnAdjacent | returnHeld
  | settled | waiting | steppingUp | steppingDown
  | tripNormal | tripTripped | tripCooldown | tripLocked | frostClear | frostFrost | supplyNormal | supplyLow
  | contactOpen | contactClosed
  deriving DecidableEq, Repr

/-- FREE VALUE, the byte that READ_STATUS carries for such a state (log 10). -/
opaque statusCode : Coded → Byte

/-- FREE VALUE, bytes 38 to 61 of the READ_CONFIG payload, by index (log 11). -/
opaque configFiller : Nat → Byte

end Config

end Sys2Proof
end

