-- ==== Sys2Proof/Machine/Constants.lean ====
section
/-! DEFINITION. The numbers the spec fixes: the defaults of the configuration values, the linearisation table, the times
and periods. -/

namespace Sys2Proof

namespace Config

/-- The defaults of the configuration symbols (00); the three yes-or-no settings, for which 00 gives no default, are
the arguments. -/
def defaults (doorZone followAdjacent freshFitted : Bool) : Settings where
  zones := 2
  period := 500
  stages := 3
  stagePower := 1500
  coolRating := 100
  coolantShare := 600
  offset := 0
  kp := 200
  ki := 60
  deadBand := 8
  fanMin := 250
  fanHeatMin := 400
  ventSpeed := 500
  minFresh := 200
  reserveEl := 1000
  reserveC := 20
  blindBudget := 3000
  blindCooling := 50
  supplyEntry := 235
  supplyExit := 255
  trimRet := 0
  trimDischarge := 0
  trimCoil := 0
  trimFresh := 0
  doorZone := doorZone
  followAdjacent := followAdjacent
  freshFitted := freshFitted

/-- The linearisation table T[0] to T[32] in sixteenths of a degree (R3). -/
def breakpoints : List Int :=
  [-800, -640, -512, -416, -336, -272, -216, -168, -120, -80, -40,
   0, 40, 72, 104, 136, 168, 200, 232, 264, 296, 328,
   360, 400, 440, 480, 528, 584, 648, 728, 832, 976, 1200]

/-- Time from an opening door to the own door condition (R101), ms. -/
def doorDwell : Nat := 1000
/-- The DOOR tail (R103), ms. -/
def doorTail : Nat := 20000
/-- Silence timeout of the PANEL record (R48), ms. -/
def panelTimeout : Nat := 30000
/-- Silence timeout of the BUDGET record (R48), ms. -/
def budgetTimeout : Nat := 5000
/-- Silence timeout of the PLANT record (R48), ms. -/
def plantTimeout : Nat := 5000
/-- Spacing of control passes (R59), ms. -/
def passPeriod : Nat := 1000
/-- Length of the test timer (R174), ms. -/
def testTime : Nat := 120000
/-- Longest configuration read (R167), ms. -/
def readTime : Nat := 100
/-- Spacing of fan ticks (R140), ms. -/
def fanPeriod : Nat := 100
/-- Spacing of damper ticks (R143), ms. -/
def damperPeriod : Nat := 1000
/-- Time at or above fan_heat_min that proves the fan (R125), ms. -/
def fanProofTime : Nat := 5000
/-- The after-run (R138), ms. -/
def afterRun : Nat := 30000
/-- The step-down delay (R124), ms. -/
def stepDown : Nat := 500
/-- The step-up delay of a station (R124), ms. -/
def stepUp (own : Nat) : Nat := 3000 + 250 * own
/-- The overload hold of a station (R92), ms. -/
def overloadHold (own : Nat) : Nat := 2000 * own
/-- The heat-limit open dwell (R150), ms. -/
def openDwell : Nat := 100
/-- The cooldown timer (R151), ms. -/
def cooldown : Nat := 60000
/-- The age at which a trip leaves the trip list (R152), ms. -/
def tripMemory : Nat := 1800000
/-- The cold dwell of the FROST machine (R155), ms. -/
def coldDwell : Nat := 10000
/-- The warm dwell of the FROST machine (R155), ms. -/
def warmDwell : Nat := 60000
/-- The low dwell of the SUPPLY machine (R158), ms. -/
def lowDwell : Nat := 2000
/-- The recovery dwell of the SUPPLY machine (R158), ms. -/
def recoveryDwell : Nat := 10000
/-- The drop timer of the DISCHARGE ceiling (R159), ms. -/
def dropTime : Nat := 10000
/-- The rise timer of the DISCHARGE ceiling (R160), ms. -/
def riseTime : Nat := 30000
/-- Failed attempts at which a slot's content is discarded (R24). -/
def maxFailures : Nat := 16
/-- Depth of the mode stack (R106). -/
def stackDepth : Nat := 3

end Config

end Sys2Proof
end

