-- ==== Sys2Proof/Syntax.lean ====
section
/-! DEFINITION. The commands of the NZ24: one constructor of `Instr` for each row of opcode_table.json, with the
names its operands are written in. -/

namespace Sys2Proof

/-- The temperature channels (R1). -/
inductive Channel where
  | ret | discharge | coil | fresh
  deriving DecidableEq, Repr

/-- The operating modes (chapter 6), lowest level first. -/
inductive Mode where
  | auto | economy | vent | precond | boost | purge | door
  deriving DecidableEq, Repr

/-- The modes that carry a mode timer (R113). -/
inductive TimedMode where
  | precond | boost | purge
  deriving DecidableEq, Repr

/-- The panel modes (R49). -/
inductive PanelMode where
  | off | auto | vent | economy
  deriving DecidableEq, Repr

/-- The conditions a POST names (R100). -/
inductive PostCondition where
  | purge | boost | precond
  deriving DecidableEq, Repr

/-- The actions of a POST (R100). -/
inductive PostAction where
  | raise | finish
  deriving DecidableEq, Repr

/-- The station states a REPORT carries (R32). -/
inductive ReportedState where
  | running | standby | test
  deriving DecidableEq, Repr

/-- The fifteen flags of the REPORT flag set (R32), in the bit order of 10.1. -/
structure FlagSet where
  retFault    : Bool
  disFault    : Bool
  coilFault   : Bool
  freshFault  : Bool
  tripped     : Bool
  locked      : Bool
  frost       : Bool
  supplyLow   : Bool
  disLimit    : Bool
  cfgDefault  : Bool
  cfgClamped  : Bool
  duplicate   : Bool
  panelSilent : Bool
  budgetBlind : Bool
  plantBlind  : Bool
  deriving DecidableEq, Repr

/-- What a REPORT carries beyond its source (R32), in the units of the message: powers in 100 W, cooling in cu,
temperatures as two-byte signed values, absent where the presence bit is clear. -/
structure ReportBody where
  state    : ReportedState
  level    : Mode
  priority : Bool
  door     : Bool
  dEl      : Byte
  dC       : Byte
  cEl      : Byte
  cC       : Byte
  ret      : Option Word
  outside  : Option Word
  flags    : FlagSet
  deriving DecidableEq, Repr

/-- The commands, one for each row of opcode_table.json. Each constructor's comment gives the row's rule. -/
inductive Instr where
  /-- COLD_START (R167): the logic supply rises; the strap pins ST3 to ST0 stand at `straps`. -/
  | coldStart (straps : BitVec 4)
  /-- RESET_PIN_LOW (R167). -/
  | resetPinLow
  /-- PIN_RESET (R167): the RESET pin is released; the strap pins stand at `straps`. -/
  | pinReset (straps : BitVec 4)
  /-- CONFIGURATION_READ_END (R167): `bytes` are those the serial memory gave; fewer than 64 is a read cut off. -/
  | configurationReadEnd (bytes : List Byte)
  /-- LISTEN_TIMER_EXPIRY (R169). -/
  | listenTimerExpiry
  /-- RESTART_TAKES_EFFECT (R176). -/
  | restartTakesEffect
  /-- TEMPERATURE_SAMPLE (R7): one conversion of a temperature channel. -/
  | temperatureSample (channel : Channel) (code : Fin 1024)
  /-- SUPPLY_SAMPLE (R12). -/
  | supplySample (code : Fin 1024)
  /-- ATTEMPT_BEGIN (R20). -/
  | attemptBegin
  /-- ATTEMPT_COMPLETE (R23). -/
  | attemptComplete
  /-- CONTENTION_LOSS (R21). -/
  | contentionLoss
  /-- ATTEMPT_ERROR (R22). -/
  | attemptError
  /-- REPORT_DUE (R31). -/
  | reportDue
  /-- EARLY_REPORT_DUE (R33). -/
  | earlyReportDue
  /-- FIRST_REPORT_DUE (R34). -/
  | firstReportDue
  /-- RECEPTION_DROP (R25): a message that is not taken in. -/
  | receptionDrop (bytes : List Byte)
  /-- OVERLOAD_ARRIVAL (R92). -/
  | overloadArrival
  /-- POST_ARRIVAL (R100). -/
  | postArrival (source : Nat) (condition : PostCondition) (action : PostAction) (target : Nat)
  /-- BUDGET_ARRIVAL (R51), in 100 W units. -/
  | budgetArrival (units : Word)
  /-- PLANT_ARRIVAL (R53). -/
  | plantArrival (capacity : Word) (coolant : Word) (fault : Bool)
  /-- PANEL_ARRIVAL (R49). -/
  | panelArrival (mode : PanelMode) (setpoint : Word)
  /-- REPORT_ARRIVAL (R39). -/
  | reportArrival (source : Nat) (body : ReportBody)
  /-- READ_STATUS (R173). -/
  | readStatus (target : Fin 32)
  /-- READ_PEER (R173). -/
  | readPeer (target : Fin 32) (argument : Byte)
  /-- READ_CONFIG (R173). -/
  | readConfig (target : Fin 32)
  /-- TEST_OUTPUT (R174). -/
  | testOutput (target : Fin 32) (argument : Byte) (value : Word)
  /-- END_TEST (R175). -/
  | endTest (target : Fin 32)
  /-- RESTART (R176). -/
  | restart (target : Fin 32)
  /-- CLEAR_LOCK (R153). -/
  | clearLock (target : Fin 32)
  /-- ENTRY_STALE (R40): the entry of station `number`. -/
  | entryStale (number : Nat)
  /-- ENTRY_LOST (R40): the entry of station `number`. -/
  | entryLost (number : Nat)
  /-- DUPLICATE_TIMER_EXPIRY (R47). -/
  | duplicateTimerExpiry
  /-- PANEL_TIMEOUT (R50). -/
  | panelTimeout
  /-- BUDGET_TIMEOUT (R52). -/
  | budgetTimeout
  /-- PLANT_TIMEOUT (R54). -/
  | plantTimeout
  /-- CONTROL_PASS (R61). -/
  | controlPass
  /-- OVERLOAD_HOLD_EXPIRY (R94). -/
  | overloadHoldExpiry
  /-- MODE_TIMER_EXPIRY (R114): of the timer of `mode`. -/
  | modeTimerExpiry (mode : TimedMode)
  /-- DOOR_INPUT_OPEN (R101). -/
  | doorInputOpen
  /-- DOOR_INPUT_CLOSE (R101). -/
  | doorInputClose
  /-- DOOR_DWELL_EXPIRY (R101). -/
  | doorDwellExpiry
  /-- DOOR_TAIL_EXPIRY (R103). -/
  | doorTailExpiry
  /-- STEP_UP_DELAY_EXPIRY (R128). -/
  | stepUpDelayExpiry
  /-- STEP_DOWN_DELAY_EXPIRY (R128). -/
  | stepDownDelayExpiry
  /-- FAN_PROVEN (R125). -/
  | fanProven
  /-- FAN_TICK (R140). -/
  | fanTick
  /-- DAMPER_TICK (R143). -/
  | damperTick
  /-- AFTER_RUN_EXPIRY (R138). -/
  | afterRunExpiry
  /-- HEAT_LIMIT_OPEN (R150). -/
  | heatLimitOpen
  /-- HEAT_LIMIT_CLOSE (R151). -/
  | heatLimitClose
  /-- OPEN_DWELL_EXPIRY (R151). -/
  | openDwellExpiry
  /-- COOLDOWN_EXPIRY (R151). -/
  | cooldownExpiry
  /-- TRIP_ENTRY_AGE_OUT (R152). -/
  | tripEntryAgeOut
  /-- COLD_DWELL_EXPIRY (R155). -/
  | coldDwellExpiry
  /-- WARM_DWELL_EXPIRY (R155). -/
  | warmDwellExpiry
  /-- LOW_DWELL_EXPIRY (R158). -/
  | lowDwellExpiry
  /-- RECOVERY_DWELL_EXPIRY (R158). -/
  | recoveryDwellExpiry
  /-- DROP_TIMER_EXPIRY (R159). -/
  | dropTimerExpiry
  /-- RISE_TIMER_EXPIRY (R160). -/
  | riseTimerExpiry
  /-- TEST_TIMER_EXPIRY (R175). -/
  | testTimerExpiry
  /-- LINE_IDLE (R19). -/
  | lineIdle
  /-- LOGIC_SUPPLY_FALL (R167). -/
  | logicSupplyFall
  deriving DecidableEq, Repr

end Sys2Proof
end

