-- ==== Sys2Proof/Machine/State.lean ====
section
/-! DEFINITION. What the station holds: one structure for each block of 00's block overview, the pins, and the queue of
waiting commands; and the machine right after reset. Values the spec makes a function of others (freshness of a record,
DUPLICATE, claims, the effective fan target, the combination fault, the adjacent door condition) are functions of this
state, not fields (log 20). -/

namespace Sys2Proof.Machine

/-- A timer, dwell or delay: stopped, or running with its time left in ms. -/
abbrev Timer := Option Nat

/-- Nothing in the spec stops the station: no command ends in a fault. -/
inductive Fault where
  deriving DecidableEq, Repr

/-- Why a step can be refused. -/
inductive Refusal where
  /-- Raised by `exec` for a command that has no meaning yet; safe, since nothing is then claimed of it. No arm raises
  it: every command has its meaning. -/
  | notModelled (mnemonic : String)
  deriving DecidableEq, Repr

/-! ## Pins -/

/-- The supplies and input pins (10.5). -/
structure Pins where
  /-- The logic supply stands above 4.2 V (R167). -/
  powered     : Bool
  /-- The RESET pin is held low (R167). -/
  resetLow    : Bool
  /-- The hold of the RESET pin began before the logic supply rose: it is part of the cold start (R167). -/
  holdIsCold  : Bool
  /-- The DOOR input is open (R101). -/
  doorOpen    : Bool
  /-- The HEAT_LIMIT contact is open (R150). -/
  contactOpen : Bool
  deriving DecidableEq, Repr

/-! ## Station control (chapter 9) -/

/-- Station states (R166). -/
inductive StationState where
  | starting | running | standby | test
  deriving DecidableEq, Repr

/-- Start phases (R167). -/
inductive StartPhase where
  | reading | listening
  deriving DecidableEq, Repr

/-- Start causes (R171). -/
inductive StartCause where
  | cold | pin | restart
  deriving DecidableEq, Repr

/-- What station control holds. -/
structure Control where
  state          : StationState
  phase          : StartPhase
  own            : Nat
  cfg            : Settings
  cfgDefault     : Bool
  cfgClamped     : Bool
  cause          : StartCause
  listen         : Timer
  test           : Timer
  restartPending : Bool
  /-- Time left of the configuration read (R167). -/
  read           : Timer
  deriving DecidableEq, Repr

/-! ## Sensing unit (chapter 1) -/

/-- Channel states (R7). -/
inductive ChannelState where
  | good | fault
  deriving DecidableEq, Repr

/-- Fault kinds (R7). -/
inductive FaultKind where
  | none | short | open
  deriving DecidableEq, Repr

/-- What one temperature channel holds (section 1.4). -/
structure ChannelData where
  state    : ChannelState
  badRun   : Nat
  goodRun  : Nat
  kind     : FaultKind
  filtered : Option Int
  deriving DecidableEq, Repr

/-- Sources of the outside temperature (R14). -/
inductive OutsideSource where
  | own | peers | held | default
  deriving DecidableEq, Repr

/-- What the sensing unit holds. -/
structure Sensing where
  ret       : ChannelData
  discharge : ChannelData
  coil      : ChannelData
  fresh     : ChannelData
  supply    : Option Nat
  outside   : Int
  source    : OutsideSource
  /-- An OWN or PEERS value has been selected since the last cold start or pin reset (R13). -/
  selected  : Bool
  deriving DecidableEq, Repr

/-! ## Link controller (chapter 2) -/

/-- The kinds of service request, with the codes of 10.1 in their order. -/
inductive RequestKind where
  | readStatus | readPeer | readConfig | testOutput | endTest | restart | clearLock
  deriving DecidableEq, Repr

/-- Results of a service request (R172, R173). -/
inductive Result where
  | ok | busy | refused | notPresent
  deriving DecidableEq, Repr

/-- The content of a SERVICE REPLY (section 2.6). -/
structure Reply where
  kind    : RequestKind
  result  : Result
  payload : List Byte
  deriving DecidableEq, Repr

/-- The content of a transmit slot. -/
inductive Content where
  | report (r : ReportBody)
  | reply (r : Reply)
  deriving DecidableEq, Repr

/-- An attempt in progress (R20). `live`: its content is still its slot's content, neither replaced nor withdrawn
(R24, R28, R36). -/
structure Attempt where
  content : Content
  live    : Bool
  deriving DecidableEq, Repr

/-- How the link controller counts the line (R19): `unread` is busy with no idle read since the beginning. -/
inductive LineState where
  | unread | busy | idle
  deriving DecidableEq, Repr

/-- What the link controller holds. -/
structure Link where
  line         : LineState
  /-- Bit times of 1 read one after another up to now, counted to 12 (R19). -/
  ones         : Nat
  /-- The bits read so far of the message on the line, oldest first: another station's (R25), or the station's own,
  read back (R21). -/
  incoming     : Option (List Bool)
  reportSlot   : Option ReportBody
  replySlot    : Option Reply
  reportCount  : Nat
  replyCount   : Nat
  attempt      : Option Attempt
  /-- Time since the last completed report, of this beginning (R31, R36). -/
  sinceReport  : Option Nat
  /-- Time since the latest discard of a report, where no report has completed after it (R35). -/
  sinceDiscard : Option Nat
  /-- Time to the first report (R34). -/
  firstIn      : Timer
  /-- Time to the early report that has been made due (R33). -/
  earlyIn      : Timer
  /-- A change that makes an early report due was noticed while a REPORT attempt is in progress (R30). -/
  changed      : Bool
  deriving DecidableEq, Repr

/-! ## Peer table and source records (chapter 3) -/

/-- Entry states (R40). -/
inductive EntryState where
  | live | stale | lost
  deriving DecidableEq, Repr

/-- A peer entry (section 3.1). -/
structure Entry where
  number   : Nat
  state    : EntryState
  age      : Nat
  heard    : ReportedState
  level    : Mode
  priority : Bool
  dEl      : Nat
  dC       : Nat
  cEl      : Nat
  cC       : Nat
  ret      : Option Int
  outside  : Option Int
  door     : Bool
  flags    : FlagSet
  deriving DecidableEq, Repr

/-- The PANEL record (R49); HEARD exactly while its silence timer runs (R48). -/
structure PanelRecord where
  mode     : PanelMode
  setpoint : Int
  silence  : Timer
  deriving DecidableEq, Repr

/-- The BUDGET record (R51); HEARD exactly while its silence timer runs. -/
structure BudgetRecord where
  heard   : Option Nat
  silence : Timer
  deriving DecidableEq, Repr

/-- The PLANT record (R53); HEARD exactly while its silence timer runs. -/
structure PlantRecord where
  capacity : Option Nat
  coolant  : Option Int
  fault    : Bool
  silence  : Timer
  deriving DecidableEq, Repr

/-- Coolant states (R55). -/
inductive CoolantState where
  | hot | cold
  deriving DecidableEq, Repr

/-- What the peer block holds. DUPLICATE is set exactly while the duplicate timer runs (R46, R47). -/
structure Peers where
  table     : List Entry
  duplicate : Timer
  panel     : PanelRecord
  budget    : BudgetRecord
  plant     : PlantRecord
  coolant   : CoolantState
  deriving DecidableEq, Repr

/-! ## Demand unit (chapter 4) -/

/-- Return sources (R65). -/
inductive ReturnSource where
  | own | adjacent | held
  deriving DecidableEq, Repr

/-- The demand record (R77). The previous u of a pass is this record's `u`. -/
structure DemandRecord where
  spEff         : Option Int
  tRet          : Option Int
  source        : ReturnSource
  /-- The reduced error e'. -/
  error         : Int
  u             : Int
  iAcc          : Int
  /-- The heat demand h. -/
  heat          : Nat
  /-- The cool demand k. -/
  cool          : Nat
  coolantTarget : Nat
  stagesWanted  : Nat
  dEl           : Nat
  dC            : Nat
  deriving DecidableEq, Repr

/-- What the demand unit holds. -/
structure Demand where
  passTimer : Timer
  record    : DemandRecord
  deriving DecidableEq, Repr

/-! ## Share unit (chapter 5) -/

/-- The allowance record (R91) with the overload hold and cap. -/
structure Share where
  nEl         : Nat
  aC          : Nat
  heatLimited : Bool
  coolLimited : Bool
  shareEl     : Nat
  shareC      : Nat
  headEl      : Nat
  headC       : Nat
  weightedEl  : Nat
  weightedC   : Nat
  /-- B_el, B_c, the budgets in use (R82). -/
  budgetEl    : Nat
  budgetC     : Nat
  hold        : Timer
  cap         : Nat
  deriving DecidableEq, Repr

/-! ## Mode arbiter (chapter 6) -/

/-- One mark for each mode above AUTO (R97). -/
structure Marks where
  economy : Bool
  vent    : Bool
  precond : Bool
  boost   : Bool
  purge   : Bool
  door    : Bool
  deriving DecidableEq, Repr

/-- An entry of the mode stack (R108). -/
structure StackEntry where
  mode    : Mode
  retired : Bool
  deriving DecidableEq, Repr

/-- What the mode arbiter holds. `stack` stands top first. -/
structure Arbiter where
  pending      : Marks
  active       : Marks
  governing    : Mode
  stack        : List StackEntry
  precondTimer : Timer
  boostTimer   : Timer
  purgeTimer   : Timer
  ownDoor      : Bool
  dwell        : Timer
  cause        : Bool
  tail         : Timer
  deriving DecidableEq, Repr

/-! ## Output stage (chapter 7) -/

/-- Sequencer states (R126). -/
inductive SeqState where
  | settled | waiting | steppingUp | steppingDown
  deriving DecidableEq, Repr

/-- Fan proof (R125): not counting, counting with the time counted, or proven. -/
inductive FanProof where
  | idle
  | counting (ms : Nat)
  | proven
  deriving DecidableEq, Repr

/-- The test settings (R146). -/
structure TestSettings where
  fan     : Nat
  evap    : Nat
  coolant : Nat
  damper  : Nat
  stages  : Nat
  deriving DecidableEq, Repr

/-- What the output stage holds. -/
structure Output where
  stagesOn      : Nat
  stageTarget   : Nat
  seq           : SeqState
  upDelay       : Timer
  downDelay     : Timer
  proof         : FanProof
  afterRun      : Timer
  /-- The source fan target (R123). -/
  fanTarget     : Nat
  evapTarget    : Nat
  coolantTarget : Nat
  damperTarget  : Nat
  fanPos        : Nat
  evapPos       : Nat
  coolantPos    : Nat
  damperPos     : Nat
  settings      : TestSettings
  /-- Time to the next fan tick (R140) and damper tick (R143). -/
  fanTickIn     : Timer
  damperTickIn  : Timer
  deriving DecidableEq, Repr

/-! ## Interlock unit (chapter 8) -/

/-- TRIP states (R151). -/
inductive TripState where
  | normal | tripped | cooldown | locked
  deriving DecidableEq, Repr

/-- FROST states (R155). -/
inductive FrostState where
  | clear | frost
  deriving DecidableEq, Repr

/-- SUPPLY states (R158). -/
inductive SupplyState where
  | normal | low
  deriving DecidableEq, Repr

/-- What the interlock unit holds. -/
structure Interlock where
  trip         : TripState
  openDwell    : Timer
  cooldown     : Timer
  /-- Ages of the trips, oldest first (R152). -/
  tripList     : List Nat
  frost        : FrostState
  coldDwell    : Timer
  warmDwell    : Timer
  supply       : SupplyState
  lowDwell     : Timer
  recovery     : Timer
  /-- The DISCHARGE ceiling (R159). -/
  discharge    : Nat
  drop         : Timer
  rise         : Timer
  /-- The effective ceiling as handed to the output stage (R163). -/
  ceiling      : Nat
  deriving DecidableEq, Repr

/-! ## The machine -/

/-- The whole station, with the queue of waiting commands. -/
structure State where
  pins      : Pins
  control   : Control
  sensing   : Sensing
  link      : Link
  peers     : Peers
  demand    : Demand
  share     : Share
  arbiter   : Arbiter
  output    : Output
  interlock : Interlock
  /-- The model's own counter, to which the free value of log 3 is applied. -/
  ties      : Nat
  /-- The model's own queue of waiting commands, first in, first out. -/
  pending   : List Instr
  /-- The model's own queue of levels that the line will carry, one a bit time, oldest first (log 5). -/
  wire      : List Bool
  /-- The model's own count, in microseconds, of the bit times read since the last whole millisecond (log 5). -/
  micros    : Nat
  deriving DecidableEq, Repr

/-! ## The values after a cold start -/

/-- A channel after a cold start or a pin reset (R17). -/
def ChannelData.unseeded : ChannelData :=
  { state := .good, badRun := 0, goodRun := 0, kind := .none, filtered := none }

/-- The sensing unit after a cold start or a pin reset (R17). -/
def Sensing.initial : Sensing :=
  { ret := .unseeded, discharge := .unseeded, coil := .unseeded, fresh := .unseeded, supply := none,
    outside := 320, source := .default, selected := false }

/-- The link controller after a cold start or a pin reset (R36). -/
def Link.initial : Link :=
  { line := .unread, ones := 0, incoming := none, reportSlot := none, replySlot := none, reportCount := 0,
    replyCount := 0, attempt := none, sinceReport := none, sinceDiscard := none, firstIn := none, earlyIn := none,
    changed := false }

/-- The peer block after a cold start or a pin reset (R57). -/
def Peers.initial : Peers :=
  { table := [], duplicate := none, panel := { mode := .auto, setpoint := 352, silence := none },
    budget := { heard := none, silence := none },
    plant := { capacity := none, coolant := none, fault := false, silence := none }, coolant := .cold }

/-- The zero demand record (R77). -/
def DemandRecord.zero : DemandRecord :=
  { spEff := none, tRet := none, source := .held, error := 0, u := 0, iAcc := 0, heat := 0, cool := 0,
    coolantTarget := 0, stagesWanted := 0, dEl := 0, dC := 0 }

/-- The demand unit after any beginning (R78). -/
def Demand.initial : Demand := { passTimer := none, record := .zero }

/-- The share unit after any beginning (R95). The cap reads 0 while the hold is stopped: DESIGN CHOICE (log 28). -/
def Share.initial : Share :=
  { nEl := 0, aC := 0, heatLimited := false, coolLimited := false, shareEl := 0, shareC := 0, headEl := 0, headC := 0,
    weightedEl := 0, weightedC := 0, budgetEl := 0, budgetC := 0, hold := none, cap := 0 }

/-- No mark set (R97). -/
def Marks.none : Marks :=
  { economy := false, vent := false, precond := false, boost := false, purge := false, door := false }

/-- The mode arbiter after a cold start or a pin reset (R120). -/
def Arbiter.initial : Arbiter :=
  { pending := .none, active := .none, governing := .auto, stack := [], precondTimer := .none, boostTimer := .none,
    purgeTimer := .none, ownDoor := false, dwell := .none, cause := false, tail := .none }

/-- Test settings all 0 (R146). -/
def TestSettings.zero : TestSettings := { fan := 0, evap := 0, coolant := 0, damper := 0, stages := 0 }

/-- The output stage after a cold start or a pin reset (R148). -/
def Output.initial : Output :=
  { stagesOn := 0, stageTarget := 0, seq := .settled, upDelay := none, downDelay := none, proof := .idle,
    afterRun := none, fanTarget := 0, evapTarget := 0, coolantTarget := 0, damperTarget := 0, fanPos := 0,
    evapPos := 0, coolantPos := 0, damperPos := 0, settings := .zero, fanTickIn := none, damperTickIn := none }

/-- The interlock unit after a cold start (R165), with S_n stages. -/
def Interlock.initial (stages : Nat) : Interlock :=
  { trip := .normal, openDwell := none, cooldown := none, tripList := [], frost := .clear, coldDwell := none,
    warmDwell := none, supply := .normal, lowDwell := none, recovery := none, discharge := stages, drop := none,
    rise := none, ceiling := stages }

/-- The configuration values that stand between a beginning and the end of the configuration read: the defaults, with
the three yes-or-no settings no. DESIGN CHOICE, unsafe (log 8). -/
def unreadSettings : Settings := Config.defaults false false false

/-- Station control after a cold start or a pin reset (R178), reading its configuration. -/
def Control.initial (own : Nat) (cause : StartCause) : Control :=
  { state := .starting, phase := .reading, own := own, cfg := unreadSettings, cfgDefault := false,
    cfgClamped := false, cause := cause, listen := none, test := none, restartPending := false,
    read := some Config.readTime }

/-- The machine right after reset: a cold start with every strap pin open, so station 1 (R167, R180), the door and the
heat-limit contact closed and the RESET pin released. The straps and the pin levels are DESIGN CHOICE, unsafe (log 7);
the blocks stand as R17, R36, R57, R78, R95, R120, R148, R165 and R178 give. -/
def State.reset : State :=
  { pins := { powered := true, resetLow := false, holdIsCold := false, doorOpen := false, contactOpen := false },
    control := .initial 1 .cold, sensing := .initial, link := .initial, peers := .initial, demand := .initial,
    share := .initial, arbiter := .initial, output := .initial,
    interlock := .initial unreadSettings.stages, ties := 0, pending := [], wire := [], micros := 0 }

end Sys2Proof.Machine
end

