-- ==== Sys2Proof/Machine/Operands.lean ====
section
/-! DEFINITION. The arithmetic of 00 (clamps, signed division, rounding up) and the values that a message's fields are
taken in as (R26, R39, R49, R51, R53). -/

namespace Sys2Proof.Machine

/-- "Clamped to lo..hi" on the integers (00, arithmetic). -/
def clampInt (lo hi x : Int) : Int := max lo (min hi x)

/-- "Clamped to lo..hi" on the naturals (00, arithmetic). -/
def clampNat (lo hi x : Nat) : Nat := max lo (min hi x)

/-- "ceil" of a quotient of naturals (00, arithmetic). -/
def ceilDiv (a b : Nat) : Nat := (a + b - 1) / b

/-- One step of at most `most` from `position` toward `target` (R140, R141, R143). -/
def slew (most target position : Nat) : Nat :=
  if position ≤ target then min target (position + most) else max target (position - most)

/-- A timer after `ms` have passed. -/
def Timer.after (ms : Nat) (t : Timer) : Timer := t.map (· - ms)

/-- A two-byte temperature, clamped to the working range (R39, R53). -/
def temperatureOf (w : Word) : Int := clampInt (-640) 1360 w.toInt

/-- A power in 100 W units, as watts (R39). -/
def powerOf (b : Byte) : Nat := min 60 b.toNat * 100

/-- A cooling field (R39). -/
def coolingOf (b : Byte) : Nat := min 250 b.toNat

/-- A heard budget in watts (R51). -/
def budgetOf (units : Word) : Nat := min 600 units.toNat * 100

/-- A heard cooling capacity (R53). -/
def capacityOf (w : Word) : Nat := min 4000 w.toNat

/-- A heard panel setpoint (R49). -/
def setpointOf (w : Word) : Int := clampInt 272 432 w.toInt

/-- The value of a service request, clamped (R172). -/
def settingOf (w : Word) : Nat := min 1000 w.toNat

/-- The entry a REPORT writes, LIVE and of age 0 (R39). -/
def entryOf (number : Nat) (r : ReportBody) : Entry where
  number := number
  state := .live
  age := 0
  heard := r.state
  level := r.level
  priority := r.priority
  dEl := powerOf r.dEl
  dC := coolingOf r.dC
  cEl := powerOf r.cEl
  cC := coolingOf r.cC
  ret := r.ret.map temperatureOf
  outside := r.outside.map temperatureOf
  door := r.door
  flags := r.flags

end Sys2Proof.Machine
end

