-- ==== Sys2Proof/Machine/Demand.lean ====
section
/-! DEFINITION. The demand unit's control pass (chapter 4). -/

namespace Sys2Proof.Machine

/-- Summer compensation (R63). -/
def summerCompensation (outside : Int) : Int :=
  if 448 ≤ outside then clampInt 0 48 ((outside - 448) / 4) else 0

/-- Winter compensation (R63). -/
def winterCompensation (outside : Int) : Int :=
  if outside < 0 then clampInt 0 16 ((0 - outside) / 8) else 0

/-- The effective setpoint (R64). -/
def effectiveSetpoint (governing : Mode) (sp offset outside : Int) : Int :=
  clampInt 256 464
    (match governing with
     | .precond => sp
     | .auto | .economy | .vent | .boost | .purge | .door =>
       sp + offset + summerCompensation outside + winterCompensation outside)

/-- The return value used and its source; none where the pass has no return value (R65). -/
def returnValue (own : Option Int) (neighbours : List Int) : Option (Int × ReturnSource) :=
  match own, neighbours with
  | some t, _ => some (t, .own)
  | none, [] => none
  | none, ts => some (ts.sum.tdiv ts.length, .adjacent)

/-- The effective dead band (R67). -/
def effectiveDeadBand (governing : Mode) (deadBand : Nat) : Int :=
  match governing with
  | .economy => deadBand + 32
  | .auto | .vent | .precond | .boost | .purge | .door => deadBand

/-- The reduced error (R67). -/
def reducedError (band e : Int) : Int := if (e.natAbs : Int) ≤ band then 0 else e - e.sign * band

/-- The proportional term (R68). -/
def proportional (kp : Nat) (error : Int) : Int := ((kp : Int) * error).tdiv 16

/-- Whether a governing mode freezes the integrator (R69). -/
def freezes : Mode → Bool
  | .vent | .boost | .door => true
  | .auto | .economy | .precond | .purge => false

/-- Whether the pass skips its increment (R69). -/
def skipsIncrement (governing : Mode) (error previous : Int) (heatLimited coolLimited : Bool) : Bool :=
  freezes governing
    || (0 < error && (previous == 1000 || heatLimited))
    || (error < 0 && (previous == -1000 || coolLimited))

/-- The integrator accumulator of a pass (R69, R70). -/
def integrate (skip : Bool) (ki : Nat) (error iAcc : Int) : Int :=
  if skip then iAcc else clampInt (-60000) 60000 (iAcc + ((ki : Int) * error).tdiv 16)

/-- The integral term (R70). -/
def integral (iAcc : Int) : Int := iAcc.tdiv 60

/-- The controller output of a pass with a return value, outside VENT (R71, R72). -/
def controllerOutput (governing : Mode) (kp : Nat) (error iAcc : Int) : Int :=
  match governing with
  | .boost =>
    if 0 < error then 1000 else if error < 0 then -1000
    else clampInt (-1000) 1000 (proportional kp error + integral iAcc)
  | .auto | .economy | .vent | .precond | .purge | .door =>
    clampInt (-1000) 1000 (proportional kp error + integral iAcc)

/-- The coolant valve target of a heat demand (R74, R75). -/
def coolantSplit (cfg : Settings) (coolant : CoolantState) (h : Nat) : Nat :=
  match coolant with
  | .cold => 0
  | .hot =>
    if cfg.coolantShare = 0 then 0
    else if cfg.coolantShare = 1000 then h
    else if h ≤ cfg.coolantShare then min 1000 (h * 1000 / cfg.coolantShare)
    else 1000

/-- The stages wanted for a heat demand (R74, R75). -/
def stagesSplit (cfg : Settings) (coolant : CoolantState) (h : Nat) : Nat :=
  match coolant with
  | .cold => ceilDiv (h * cfg.stages) 1000
  | .hot =>
    if cfg.coolantShare = 0 then ceilDiv (h * cfg.stages) 1000
    else if cfg.coolantShare = 1000 then 0
    else if h ≤ cfg.coolantShare then 0
    else ceilDiv ((h - cfg.coolantShare) * cfg.stages) (1000 - cfg.coolantShare)

/-- The record that a controller output gives: heat split and cooling demand (R74 to R77). -/
def splitDemand (cfg : Settings) (coolant : CoolantState) (u : Int) (r : DemandRecord) : DemandRecord :=
  { r with
    u := u
    heat := u.toNat
    cool := (-u).toNat
    coolantTarget := coolantSplit cfg coolant u.toNat
    stagesWanted := stagesSplit cfg coolant u.toNat
    dEl := stagesSplit cfg coolant u.toNat * cfg.stagePower
    dC := (-u).toNat * cfg.coolRating / 1000 }

/-- What a pass reads (R60). -/
structure PassInputs where
  cfg         : Settings
  governing   : Mode
  setpoint    : Int
  outside     : Int
  /-- The filtered RETURN value while RETURN is usable. -/
  ownReturn   : Option Int
  neighbours  : List Int
  coolant     : CoolantState
  heatLimited : Bool
  coolLimited : Bool
  deriving DecidableEq, Repr

/-- A pass in VENT (R73). -/
def ventPass (x : PassInputs) (r : DemandRecord) : DemandRecord :=
  splitDemand x.cfg x.coolant 0
    { r with
      spEff := some (effectiveSetpoint x.governing x.setpoint x.cfg.offset x.outside)
      tRet := match returnValue x.ownReturn x.neighbours with
              | some (t, _) => some t
              | none => r.tRet
      source := match returnValue x.ownReturn x.neighbours with
                | some (_, source) => source
                | none => .held
      error := 0 }

/-- A pass with a return value, outside VENT (R67 to R76). -/
def activePass (x : PassInputs) (t : Int) (source : ReturnSource) (r : DemandRecord) : DemandRecord :=
  let sp := effectiveSetpoint x.governing x.setpoint x.cfg.offset x.outside
  let error := reducedError (effectiveDeadBand x.governing x.cfg.deadBand) (sp - t)
  let skip := skipsIncrement x.governing error r.u x.heatLimited x.coolLimited
  let iAcc := integrate skip x.cfg.ki error r.iAcc
  splitDemand x.cfg x.coolant (controllerOutput x.governing x.cfg.kp error iAcc)
    { r with spEff := some sp, tRet := some t, source := source, error := error, iAcc := iAcc }

/-- A hold pass (R66). -/
def holdPass (r : DemandRecord) : DemandRecord := { r with source := .held }

/-- The demand record after a control pass (R61). -/
def controlPass (x : PassInputs) (r : DemandRecord) : DemandRecord :=
  match x.governing with
  | .vent => ventPass x r
  | .auto | .economy | .precond | .boost | .purge | .door =>
    match returnValue x.ownReturn x.neighbours with
    | some (t, source) => activePass x t source r
    | none => holdPass r

end Sys2Proof.Machine
end

