-- ==== Sys2Proof/Machine/Check.lean ====
section
/-! DEFINITION. The 16-bit check of messages and of the configuration record (R179), the bits of a byte in line order
(R19), and the byte order of two-byte values (10.1). -/

namespace Sys2Proof

/-- The bits of a byte, most significant first (R19, R179). -/
def byteBits (b : Byte) : List Bool :=
  [b.getLsbD 7, b.getLsbD 6, b.getLsbD 5, b.getLsbD 4, b.getLsbD 3, b.getLsbD 2, b.getLsbD 1, b.getLsbD 0]

/-- The check register after one more bit (R179). -/
def checkBit (reg : Word) (b : Bool) : Word :=
  if reg.msb != b then (reg <<< 1) ^^^ 4129#16 else reg <<< 1

/-- The check over a list of bytes (R179). -/
def check (bytes : List Byte) : Word :=
  (bytes.flatMap byteBits).foldl checkBit 65535#16

/-- A two-byte value as sent, high byte first (10.1). -/
def wordBytes (w : Word) : List Byte := [w.extractLsb' 8 8, w.extractLsb' 0 8]

/-- The two-byte value of a high and a low byte (10.1). -/
def wordOf (hi lo : Byte) : Word := hi ++ lo

/-- A run of bytes followed by its check, high byte first (10.1). -/
def withCheck (bytes : List Byte) : List Byte := bytes ++ wordBytes (check bytes)

/-- The bytes before the check, where the last two bytes are their check (R25, R179). -/
def checked (bytes : List Byte) : Option (List Byte) :=
  if bytes.length < 2 then none
  else
    let body := bytes.take (bytes.length - 2)
    if bytes.drop (bytes.length - 2) = wordBytes (check body) then some body else none

end Sys2Proof
end

