-- ==== Sys2Proof/WellFormed.lean ====
section
/-! DEFINITION. Which commands a sender can send: the bounds on operands that their types leave open. -/

namespace Sys2Proof

/-- The assigned station numbers (00, station numbers; R26). -/
def assigned (n : Nat) : Bool :=
  (1 ≤ n && n ≤ 16) || n == 24 || n == 25 || n == 26 || n == 30

/-- A zone station number (00). -/
def isZone (n : Nat) : Bool := 1 ≤ n && n ≤ 16

/-- The commands whose operands the spec allows: a POST from an assigned source to zones 0 to 16 (R26), a REPORT from
a zone (R26), an entry of a zone number (R37), a record of at most 64 bytes (R167). -/
def Instr.wf : Instr → Bool
  | .configurationReadEnd bytes => bytes.length ≤ 64
  | .postArrival source _ _ target => assigned source && target ≤ 16
  | .reportArrival source _ => isZone source
  | .entryStale number => isZone number
  | .entryLost number => isZone number
  | .coldStart _ | .resetPinLow | .pinReset _ | .listenTimerExpiry | .restartTakesEffect
  | .temperatureSample _ _ | .supplySample _ | .attemptBegin | .attemptComplete | .contentionLoss | .attemptError
  | .reportDue | .earlyReportDue | .firstReportDue | .receptionDrop _ | .overloadArrival | .budgetArrival _
  | .plantArrival _ _ _ | .panelArrival _ _ | .readStatus _ | .readPeer _ _ | .readConfig _ | .testOutput _ _ _
  | .endTest _ | .restart _ | .clearLock _ | .duplicateTimerExpiry | .panelTimeout | .budgetTimeout | .plantTimeout
  | .controlPass | .overloadHoldExpiry | .modeTimerExpiry _ | .doorInputOpen | .doorInputClose | .doorDwellExpiry
  | .doorTailExpiry | .stepUpDelayExpiry | .stepDownDelayExpiry | .fanProven | .fanTick | .damperTick
  | .afterRunExpiry | .heatLimitOpen | .heatLimitClose | .openDwellExpiry | .cooldownExpiry | .tripEntryAgeOut
  | .coldDwellExpiry | .warmDwellExpiry | .lowDwellExpiry | .recoveryDwellExpiry | .dropTimerExpiry
  | .riseTimerExpiry | .testTimerExpiry | .lineIdle | .logicSupplyFall => true

end Sys2Proof
end

