-- ==== Sys2Proof/Decode.lean ====
section
/-! DEFINITION. The words of the saloon link: the codes and layouts of 10.1, the command that a received message is
(R25, R26), and the bytes of each message. No row of opcode_table.json has bits, so `decodeTableWord` reads none. -/

namespace Sys2Proof

/-- The priority key of a class and a source (section 2.2). -/
def priorityKey (messageClass source : Nat) : Byte := BitVec.ofNat 8 (messageClass * 32 + source)

/-! ## Codes of 10.1 -/

/-- The level of a mode (6.1). -/
def Mode.level : Mode → Nat
  | .auto => 0 | .economy => 1 | .vent => 2 | .precond => 3 | .boost => 4 | .purge => 5 | .door => 6

/-- The mode of a level (6.1). -/
def modeOfLevel (n : Nat) : Option Mode :=
  match n with
  | 0 => some .auto | 1 => some .economy | 2 => some .vent | 3 => some .precond | 4 => some .boost
  | 5 => some .purge | 6 => some .door | _ => none

/-- The code of a panel mode. -/
def PanelMode.code : PanelMode → Byte
  | .off => 0#8 | .auto => 1#8 | .vent => 2#8 | .economy => 3#8

/-- The panel mode of a code. -/
def panelModeOf (b : Byte) : Option PanelMode :=
  if b = 0#8 then some .off else if b = 1#8 then some .auto else if b = 2#8 then some .vent
  else if b = 3#8 then some .economy else none

/-- The code of a POST condition. -/
def PostCondition.code : PostCondition → Byte
  | .purge => 1#8 | .boost => 2#8 | .precond => 3#8

/-- The POST condition of a code. -/
def postConditionOf (b : Byte) : Option PostCondition :=
  if b = 1#8 then some .purge else if b = 2#8 then some .boost else if b = 3#8 then some .precond else none

/-- The code of a POST action. -/
def PostAction.code : PostAction → Byte
  | .raise => 1#8 | .finish => 2#8

/-- The POST action of a code. -/
def postActionOf (b : Byte) : Option PostAction :=
  if b = 1#8 then some .raise else if b = 2#8 then some .finish else none

/-- The code of a reported station state. -/
def ReportedState.code : ReportedState → Byte
  | .running => 0#8 | .standby => 1#8 | .test => 2#8

/-- The reported station state of a code. -/
def reportedStateOf (b : Byte) : Option ReportedState :=
  if b = 0#8 then some .running else if b = 1#8 then some .standby else if b = 2#8 then some .test else none

/-- The flag of a byte coded 0 clear, 1 set. -/
def flagOf (b : Byte) : Option Bool :=
  if b = 0#8 then some false else if b = 1#8 then some true else none

/-- The flag set as the two bytes 12 and 13 of a REPORT, bit 15 sent as 0. -/
def FlagSet.word (f : FlagSet) : Word :=
  BitVec.ofBoolListLE
    [f.retFault, f.disFault, f.coilFault, f.freshFault, f.tripped, f.locked, f.frost, f.supplyLow, f.disLimit,
     f.cfgDefault, f.cfgClamped, f.duplicate, f.panelSilent, f.budgetBlind, f.plantBlind, false]

/-- The flag set of two bytes, bit 15 not read. -/
def flagSetOf (w : Word) : FlagSet where
  retFault := w.getLsbD 0
  disFault := w.getLsbD 1
  coilFault := w.getLsbD 2
  freshFault := w.getLsbD 3
  tripped := w.getLsbD 4
  locked := w.getLsbD 5
  frost := w.getLsbD 6
  supplyLow := w.getLsbD 7
  disLimit := w.getLsbD 8
  cfgDefault := w.getLsbD 9
  cfgClamped := w.getLsbD 10
  duplicate := w.getLsbD 11
  panelSilent := w.getLsbD 12
  budgetBlind := w.getLsbD 13
  plantBlind := w.getLsbD 14

/-! ## The REPORT body -/

/-- REPORT byte 3: priority, door and the two presence bits; bits 4 to 7 sent as 0. -/
def ReportBody.marks (r : ReportBody) : Byte :=
  BitVec.ofBoolListLE [r.priority, r.door, r.ret.isSome, r.outside.isSome, false, false, false, false]

/-- REPORT bytes 1 to 13 (10.1). -/
def ReportBody.bytes (r : ReportBody) : List Byte :=
  [r.state.code, BitVec.ofNat 8 r.level.level, r.marks, r.dEl, r.dC, r.cEl, r.cC]
    ++ wordBytes (r.ret.getD 0#16) ++ wordBytes (r.outside.getD 0#16) ++ wordBytes r.flags.word

/-- The REPORT body of bytes 1 to 13; none where a coded field holds an undefined code (R26). -/
def reportBodyOf (bytes : List Byte) : Option ReportBody :=
  match bytes with
  | [st, lv, mk, dEl, dC, cEl, cC, r1, r2, o1, o2, f1, f2] =>
    match reportedStateOf st, modeOfLevel lv.toNat with
    | some state, some level =>
      some { state := state, level := level, priority := mk.getLsbD 0, door := mk.getLsbD 1, dEl := dEl, dC := dC,
             cEl := cEl, cC := cC, ret := if mk.getLsbD 2 then some (wordOf r1 r2) else none,
             outside := if mk.getLsbD 3 then some (wordOf o1 o2) else none, flags := flagSetOf (wordOf f1 f2) }
    | _, _ => none
  | _ => none

/-! ## Messages -/

/-- The command of a service request with the given code, target, argument and value (10.1). -/
def requestOf (code : Nat) (target : Fin 32) (argument : Byte) (value : Word) : Option Instr :=
  match code with
  | 1 => some (.readStatus target)
  | 2 => some (.readPeer target argument)
  | 3 => some (.readConfig target)
  | 4 => some (.testOutput target argument value)
  | 5 => some (.endTest target)
  | 6 => some (.restart target)
  | 7 => some (.clearLock target)
  | _ => none

/-- The command of a message's class, source and body (R26), each kind of one length; none for a message that is
dropped or, as another zone's SERVICE REPLY, passed over. -/
def decodeBody (messageClass source : Nat) (body : List Byte) : Option Instr :=
  match messageClass, body with
  | 0, [] => if source = 25 then some .overloadArrival else none
  | 1, [c, a, t] =>
    match postConditionOf c, postActionOf a with
    | some condition, some action =>
      if assigned source && t.toNat ≤ 16 then some (.postArrival source condition action t.toNat) else none
    | _, _ => none
  | 2, [h, l] => if source = 25 then some (.budgetArrival (wordOf h l)) else none
  | 3, [c1, c2, t1, t2, f] =>
    match flagOf f with
    | some fault => if source = 26 then some (.plantArrival (wordOf c1 c2) (wordOf t1 t2) fault) else none
    | none => none
  | 4, [m, h, l] =>
    match panelModeOf m with
    | some mode => if source = 24 then some (.panelArrival mode (wordOf h l)) else none
    | none => none
  | 5, bytes =>
    match reportBodyOf bytes with
    | some r => if isZone source then some (.reportArrival source r) else none
    | none => none
  | 6, [t, k, a, v1, v2] =>
    if h : t.toNat < 32 then
      if source = 30 then requestOf k.toNat ⟨t.toNat, h⟩ a (wordOf v1 v2) else none
    else none
  | _, _ => none

/-- The command that a whole received message is; none where it is dropped (R25, R26). -/
def decodeMessage (bytes : List Byte) : Option Instr :=
  match checked bytes with
  | some (key :: body) => decodeBody (key.toNat / 32) (key.toNat % 32) body
  | _ => none

/-- A SERVICE REQUEST of the service tool (10.1). -/
def requestBytes (code : Nat) (target : Fin 32) (argument : Byte) (value : Word) : List Byte :=
  [priorityKey 6 30, BitVec.ofNat 8 target.val, BitVec.ofNat 8 code, argument] ++ wordBytes value

/-- The bytes, before the check, of the message that an arrival or request command is; none for the other commands.
A request that ignores its argument and value is written with both 0. -/
def messageBody : Instr → Option (List Byte)
  | .overloadArrival => some [priorityKey 0 25]
  | .postArrival source condition action target =>
    some [priorityKey 1 source, condition.code, action.code, BitVec.ofNat 8 target]
  | .budgetArrival units => some (priorityKey 2 25 :: wordBytes units)
  | .plantArrival capacity coolant fault =>
    some (priorityKey 3 26 :: (wordBytes capacity ++ wordBytes coolant ++ [BitVec.ofNat 8 (bit fault)]))
  | .panelArrival mode setpoint => some (priorityKey 4 24 :: mode.code :: wordBytes setpoint)
  | .reportArrival source r => some (priorityKey 5 source :: r.bytes)
  | .readStatus t => some (requestBytes 1 t 0#8 0#16)
  | .readPeer t a => some (requestBytes 2 t a 0#16)
  | .readConfig t => some (requestBytes 3 t 0#8 0#16)
  | .testOutput t a v => some (requestBytes 4 t a v)
  | .endTest t => some (requestBytes 5 t 0#8 0#16)
  | .restart t => some (requestBytes 6 t 0#8 0#16)
  | .clearLock t => some (requestBytes 7 t 0#8 0#16)
  | .coldStart _ | .resetPinLow | .pinReset _ | .configurationReadEnd _ | .listenTimerExpiry | .restartTakesEffect
  | .temperatureSample _ _ | .supplySample _ | .attemptBegin | .attemptComplete | .contentionLoss | .attemptError
  | .reportDue | .earlyReportDue | .firstReportDue | .receptionDrop _ | .entryStale _ | .entryLost _
  | .duplicateTimerExpiry | .panelTimeout | .budgetTimeout | .plantTimeout | .controlPass | .overloadHoldExpiry
  | .modeTimerExpiry _ | .doorInputOpen | .doorInputClose | .doorDwellExpiry | .doorTailExpiry | .stepUpDelayExpiry
  | .stepDownDelayExpiry | .fanProven | .fanTick | .damperTick | .afterRunExpiry | .heatLimitOpen | .heatLimitClose
  | .openDwellExpiry | .cooldownExpiry | .tripEntryAgeOut | .coldDwellExpiry | .warmDwellExpiry | .lowDwellExpiry
  | .recoveryDwellExpiry | .dropTimerExpiry | .riseTimerExpiry | .testTimerExpiry | .lineIdle
  | .logicSupplyFall => none

/-- The whole message, with its check, that an arrival or request command is (10.1, R179). -/
def encodeMessage (i : Instr) : Option (List Byte) := (messageBody i).map withCheck

/-- The command a word spells by the table's bits: no row of opcode_table.json gives bits. -/
def decodeTableWord (_nbits _w : Nat) : Option Instr := none

end Sys2Proof
end

