-- ==== Sys2Proof/Machine/Arbiter.lean ====
section
/-! DEFINITION. The mode arbiter (chapter 6): marks, the stack, raising, taking and ending of modes, and the DOOR cause.
Each function acts on the arbiter alone; Ops.lean hands the outcome on. -/

namespace Sys2Proof.Machine

/-- The mark of a mode; AUTO carries none (R97). -/
def Marks.get (m : Marks) : Mode → Bool
  | .auto => false
  | .economy => m.economy
  | .vent => m.vent
  | .precond => m.precond
  | .boost => m.boost
  | .purge => m.purge
  | .door => m.door

/-- The marks with one mode's mark replaced; AUTO carries none (R97). -/
def Marks.set (m : Marks) (mode : Mode) (b : Bool) : Marks :=
  match mode with
  | .auto => m
  | .economy => { m with economy := b }
  | .vent => { m with vent := b }
  | .precond => { m with precond := b }
  | .boost => { m with boost := b }
  | .purge => { m with purge := b }
  | .door => { m with door := b }

/-- The duration of a timed mode (R113). -/
def modeDuration : Mode → Option Nat
  | .precond => some 1800000
  | .boost => some 600000
  | .purge => some 300000
  | .auto | .economy | .vent | .door => none

/-- The mode of a timed mode. -/
def timedMode : TimedMode → Mode
  | .precond => .precond
  | .boost => .boost
  | .purge => .purge

/-- The arbiter with a mode's timer set; modes without a timer leave it as it is (R113). -/
def Arbiter.setTimer (a : Arbiter) (mode : Mode) (t : Timer) : Arbiter :=
  match mode with
  | .precond => { a with precondTimer := t }
  | .boost => { a with boostTimer := t }
  | .purge => { a with purgeTimer := t }
  | .auto | .economy | .vent | .door => a

/-- The timer of a timed mode (R113). -/
def Arbiter.timer (a : Arbiter) : TimedMode → Timer
  | .precond => a.precondTimer
  | .boost => a.boostTimer
  | .purge => a.purgeTimer

/-- The modes above AUTO, highest level first. -/
def raisableModes : List Mode := [.door, .purge, .boost, .precond, .vent, .economy]

/-- The highest pending mode above the governing level (R106). -/
def Arbiter.candidate (a : Arbiter) : Option Mode :=
  raisableModes.find? fun m => a.pending.get m && a.governing.level < m.level

/-- A mode put in force over the governing mode (R106, steps 1 to 4). -/
def Arbiter.put (a : Arbiter) (m : Mode) : Arbiter :=
  { a with
    pending := a.pending.set m false
    active := a.active.set m true
    governing := m
    stack := { mode := a.governing, retired := false } :: a.stack }.setTimer m (modeDuration m)

/-- A take, where one is to be had (R106, R107). -/
def Arbiter.take (a : Arbiter) : Arbiter :=
  match a.candidate with
  | none => a
  | some m => if a.stack.length < Config.stackDepth then a.put m else a

/-- A raise in RUNNING (R105). -/
def Arbiter.raise (m : Mode) (a : Arbiter) : Arbiter :=
  if a.pending.get m then a
  else if a.active.get m then
    match modeDuration m with
    | some d => a.setTimer m (some d)
    | none => a
  else { a with pending := a.pending.set m true }.take

/-- The pops of R110: retired entries are discarded, the first other entry governs; AUTO at the latest. -/
def popped : List StackEntry → Mode × List StackEntry
  | [] => (.auto, [])
  | e :: rest => if e.retired then popped rest else (e.mode, rest)

/-- The end of the governing mode (R110). -/
def Arbiter.finishGoverning (a : Arbiter) : Arbiter :=
  ({ a with
     active := a.active.set a.governing false
     governing := (popped a.stack).1
     stack := (popped a.stack).2 }.setTimer a.governing none).take

/-- The stack with a buried mode's entry marked retired (R111). -/
def retire (m : Mode) (stack : List StackEntry) : List StackEntry :=
  stack.map fun e => if e.mode = m then { e with retired := true } else e

/-- The end of a mode in whatever marks it carries (R109 to R111). -/
def Arbiter.finish (m : Mode) (a : Arbiter) : Arbiter :=
  if a.pending.get m then { a with pending := a.pending.set m false }
  else if a.active.get m then
    if a.governing = m then a.finishGoverning
    else { a with active := a.active.set m false, stack := retire m a.stack }.setTimer m none
  else a

/-- The arbiter cleared, the door conditions kept (R121, R122). -/
def Arbiter.cleared (a : Arbiter) : Arbiter :=
  { Arbiter.initial with ownDoor := a.ownDoor, dwell := a.dwell, cause := a.cause }

/-- The DOOR cause re-evaluated (R102, R103): `holds` is whether it now holds, `running` whether the station is in
RUNNING. -/
def Arbiter.judgeCause (holds running : Bool) (a : Arbiter) : Arbiter :=
  match a.cause, holds with
  | false, true => if running then { a with cause := true, tail := none }.raise .door else { a with cause := true }
  | true, false =>
    if a.pending.door || a.active.door then { a with cause := false, tail := some Config.doorTail }
    else { a with cause := false }
  | true, true | false, false => a

/-- The mode a panel mode raises, if any (R99). -/
def panelRaises : PanelMode → Option Mode
  | .economy => some .economy
  | .vent => some .vent
  | .off | .auto => none

/-- A new panel mode at the arbiter (R99): the end first, then the raise, which RUNNING alone takes (R104). -/
def Arbiter.panelChange (old new : PanelMode) (running : Bool) (a : Arbiter) : Arbiter :=
  let ended := match panelRaises old with
    | some m => a.finish m
    | none => a
  match panelRaises new with
  | some m => if running then ended.raise m else ended
  | none => ended

/-- The raises at an entry to RUNNING (R104). -/
def Arbiter.raiseAtEntry (panel : PanelMode) (a : Arbiter) : Arbiter :=
  let raised := match panelRaises panel with
    | some m => a.raise m
    | none => a
  if a.cause then raised.raise .door else raised

/-- The fan target of the governing mode (R118). -/
def modeFan (cfg : Settings) (governing : Mode) (u : Int) : Nat :=
  match governing with
  | .auto | .economy => cfg.fanMin + u.natAbs * (1000 - cfg.fanMin) / 1000
  | .vent => cfg.ventSpeed
  | .precond => 800
  | .boost | .purge | .door => 1000

/-- The damper target of the governing mode (R118). -/
def modeDamper (cfg : Settings) : Mode → Nat
  | .auto | .economy => cfg.minFresh
  | .vent => 600
  | .purge => 1000
  | .precond | .boost | .door => 0

end Sys2Proof.Machine
end

