-- ==== Sys2Proof/Machine/Sensing.lean ====
section
/-! DEFINITION. The sensing unit (chapter 1): classes, linearisation, trim, filter, fault and recovery, the supply value
and the selection of the outside temperature. -/

namespace Sys2Proof.Machine

/-- The class of a code: the fault kind of a bad one, none for a good one (R2). -/
def badKind (code : Nat) : Option FaultKind :=
  if code ≤ 15 then some .short else if 1008 ≤ code then some .open else none

/-- The linearised temperature of a code (R3). -/
def linearise (code : Nat) : Int :=
  let low := Config.breakpoints.getD (code / 32) 0
  let high := Config.breakpoints.getD (code / 32 + 1) 0
  low + ((high - low) * (code % 32 : Nat)) / 32

/-- The temperature of a good sample (R4). -/
def sampleTemperature (trim : Int) (code : Nat) : Int := clampInt (-640) 1360 (linearise code + trim)

/-- The filter's step for a gap (R5): an eighth of it truncated toward zero, at least one sixteenth. -/
def filterStep (gap : Int) : Int := if gap.tdiv 8 = 0 then gap.sign else gap.tdiv 8

/-- The filtered value after a good sample in GOOD (R5, R6). -/
def filtered (old : Option Int) (t : Int) : Int :=
  match old with
  | none => t
  | some v => v + filterStep (t - v)

/-- A sample of a channel in GOOD (R7). -/
def sampleInGood (trim : Int) (code : Nat) (c : ChannelData) : ChannelData :=
  match badKind code with
  | none => { c with badRun := 0, filtered := some (filtered c.filtered (sampleTemperature trim code)) }
  | some kind =>
    if c.badRun + 1 < 5 then { c with badRun := c.badRun + 1 }
    else { c with state := .fault, badRun := 0, goodRun := 0, kind := kind }

/-- A sample of a channel in FAULT (R8). -/
def sampleInFault (trim : Int) (code : Nat) (c : ChannelData) : ChannelData :=
  match badKind code with
  | some kind => { c with goodRun := 0, kind := kind }
  | none =>
    if c.goodRun + 1 < 20 then { c with goodRun := c.goodRun + 1 }
    else { state := .good, badRun := 0, goodRun := 0, kind := .none,
           filtered := some (sampleTemperature trim code) }

/-- A sample event of a temperature channel (R7, R8). -/
def sampleChannel (trim : Int) (code : Nat) (c : ChannelData) : ChannelData :=
  match c.state with
  | .good => sampleInGood trim code c
  | .fault => sampleInFault trim code c

/-- The value of a usable channel: in GOOD and seeded (R9). -/
def ChannelData.usable (c : ChannelData) : Option Int :=
  match c.state with
  | .good => c.filtered
  | .fault => none

/-- Whether a channel is in FAULT (R10). -/
def ChannelData.faulty (c : ChannelData) : Bool :=
  match c.state with
  | .good => false
  | .fault => true

/-- The supply value of a code, in tenths of a volt (R12). -/
def supplyValue (code : Nat) : Nat := code * 400 / 1023

/-- The median of a list of temperatures: place (n - 1) div 2 in ascending order (R15). -/
def median (ts : List Int) : Option Int := (ts.insertionSort (· ≤ ·))[(ts.length - 1) / 2]?

/-- The outside temperatures carried by the LIVE entries (R15). -/
def outsideHeard (table : List Entry) : List Int :=
  table.filterMap fun e => if e.state = .live then e.outside else none

/-- The selection of the outside temperature (R14, R16). What HELD keeps can differ with the order of two events that fall
together, of which R13 says that they end alike (log 38). -/
def selectOutside (freshFitted : Bool) (table : List Entry) (s : Sensing) : Sensing :=
  match (if freshFitted then s.fresh.usable else none), median (outsideHeard table) with
  | some t, _ => { s with outside := t, source := .own, selected := true }
  | none, some t => { s with outside := t, source := .peers, selected := true }
  | none, none =>
    if s.selected then { s with source := .held } else { s with outside := 320, source := .default }

/-- The trim of a channel (R4). -/
def trimOf (cfg : Settings) : Channel → Int
  | .ret => cfg.trimRet
  | .discharge => cfg.trimDischarge
  | .coil => cfg.trimCoil
  | .fresh => cfg.trimFresh

/-- The data of a channel. -/
def Sensing.channel (s : Sensing) : Channel → ChannelData
  | .ret => s.ret
  | .discharge => s.discharge
  | .coil => s.coil
  | .fresh => s.fresh

/-- The sensing unit with one channel's data replaced. -/
def Sensing.setChannel (s : Sensing) (ch : Channel) (c : ChannelData) : Sensing :=
  match ch with
  | .ret => { s with ret := c }
  | .discharge => { s with discharge := c }
  | .coil => { s with coil := c }
  | .fresh => { s with fresh := c }

end Sys2Proof.Machine
end

