-- ==== Sys2Proof/Machine/Interlock.lean ====
section
/-! DEFINITION. The protective machines (chapter 8), each as a function on the interlock unit alone. -/

namespace Sys2Proof.Machine

/-- A timer started where it is not running. -/
def Timer.ensure (ms : Nat) (t : Timer) : Timer :=
  match t with
  | some left => some left
  | none => some ms

/-- The effective ceiling (R163). -/
def Interlock.effectiveCeiling (i : Interlock) : Nat :=
  match i.trip, i.supply with
  | .normal, .normal => i.discharge
  | .normal, .low | .tripped, _ | .cooldown, _ | .locked, _ => 0

/-- An opening of the heat-limit contact (R150). -/
def Interlock.contactOpens (i : Interlock) : Interlock :=
  match i.trip with
  | .normal | .cooldown => { i with openDwell := some Config.openDwell }
  | .tripped | .locked => i

/-- A closing of the heat-limit contact (R150, R151). -/
def Interlock.contactCloses (i : Interlock) : Interlock :=
  match i.trip with
  | .normal | .cooldown => { i with openDwell := none }
  | .tripped => { i with trip := .cooldown, cooldown := some Config.cooldown }
  | .locked => i

/-- A trip, at the expiry of the open dwell (R151, R152). -/
def Interlock.trips (i : Interlock) : Interlock :=
  { i with
    trip := if i.tripList.length + 1 < 3 then .tripped else .locked
    openDwell := none
    cooldown := none
    tripList := i.tripList ++ [0] }

/-- The end of the cooldown (R151). -/
def Interlock.cooldownEnds (i : Interlock) : Interlock := { i with trip := .normal, cooldown := none }

/-- The clearing of a lock (R153), with the contact's level at that moment. -/
def Interlock.clearLock (contactOpen : Bool) (i : Interlock) : Interlock :=
  { i with trip := .normal, tripList := [], openDwell := if contactOpen then some Config.openDwell else none }

/-- A COIL sample in CLEAR that does not enter FROST (R155). -/
def Interlock.coilInClear (usable : Option Int) (i : Interlock) : Interlock :=
  match usable with
  | some t =>
    if t < 16 then { i with coldDwell := Timer.ensure Config.coldDwell i.coldDwell } else { i with coldDwell := none }
  | none => { i with coldDwell := none }

/-- A COIL sample in FROST (R155). -/
def Interlock.coilInFrost (usable : Option Int) (i : Interlock) : Interlock :=
  match usable with
  | some t =>
    if 64 < t then { i with warmDwell := Timer.ensure Config.warmDwell i.warmDwell } else { i with warmDwell := none }
  | none => { i with warmDwell := none }

/-- The entry to FROST (R155). -/
def Interlock.frosts (i : Interlock) : Interlock := { i with frost := .frost, coldDwell := none }

/-- The exit to CLEAR (R155). -/
def Interlock.clears (i : Interlock) : Interlock := { i with frost := .clear, warmDwell := none }

/-- The FROST machine at a COIL sample, from the channel as the sample leaves it (R155). -/
def Interlock.judgeCoil (coil : ChannelData) (i : Interlock) : Interlock :=
  match i.frost with
  | .clear => if coil.faulty then i.frosts else i.coilInClear coil.usable
  | .frost => i.coilInFrost coil.usable

/-- The SUPPLY machine at a SUPPLY sample (R158). -/
def Interlock.judgeSupply (cfg : Settings) (value : Nat) (i : Interlock) : Interlock :=
  match i.supply with
  | .normal =>
    if value < cfg.supplyEntry then { i with lowDwell := Timer.ensure Config.lowDwell i.lowDwell }
    else { i with lowDwell := none }
  | .low =>
    if cfg.supplyExit < value then { i with recovery := Timer.ensure Config.recoveryDwell i.recovery }
    else { i with recovery := none }

/-- A hot DISCHARGE sample (R159). -/
def Interlock.dischargeHot (i : Interlock) : Interlock :=
  match i.drop with
  | some left => { i with rise := none, drop := some left }
  | none => { i with rise := none, drop := some Config.dropTime, discharge := i.discharge - 1 }

/-- A cool DISCHARGE sample (R160). -/
def Interlock.dischargeCool (stages : Nat) (i : Interlock) : Interlock :=
  if i.discharge < stages then { i with drop := none, rise := Timer.ensure Config.riseTime i.rise }
  else { i with drop := none }

/-- A DISCHARGE sample between the two figures, or of an unseeded channel (R159, R160). -/
def Interlock.dischargeBetween (i : Interlock) : Interlock := { i with drop := none, rise := none }

/-- A DISCHARGE sample that leaves the channel in FAULT (R160). -/
def Interlock.dischargeFault (stages : Nat) (i : Interlock) : Interlock :=
  { i with discharge := min 1 stages, drop := none, rise := none }

/-- The DISCHARGE ceiling at a DISCHARGE sample, from the channel as the sample leaves it (R159, R160). -/
def Interlock.judgeDischarge (stages : Nat) (channel : ChannelData) (i : Interlock) : Interlock :=
  if channel.faulty then i.dischargeFault stages
  else match channel.usable with
    | none => i.dischargeBetween
    | some t =>
      if 880 < t then i.dischargeHot
      else if t < 800 then i.dischargeCool stages
      else i.dischargeBetween

/-- The expiry of the drop timer (R159). -/
def Interlock.drops (i : Interlock) : Interlock :=
  { i with discharge := i.discharge - 1, drop := some Config.dropTime }

/-- The expiry of the rise timer (R160). -/
def Interlock.rises (stages : Nat) (i : Interlock) : Interlock :=
  { i with
    discharge := i.discharge + 1
    rise := if i.discharge + 1 < stages then some Config.riseTime else none }

/-- The machines set afresh by every beginning, the TRIP machine apart (R156, R158, R161). -/
def Interlock.begins (stages : Nat) (i : Interlock) : Interlock :=
  { Interlock.initial stages with
    trip := i.trip, openDwell := i.openDwell, cooldown := i.cooldown, tripList := i.tripList, ceiling := i.ceiling }

/-- The trip list after `ms` have passed, ages held at 1,800,000 (R152). -/
def ageTrips (ms : Nat) (ages : List Nat) : List Nat :=
  ages.map fun a => max a (min (a + ms) Config.tripMemory)

/-- The interlock unit after `ms` have passed. -/
def Interlock.after (ms : Nat) (i : Interlock) : Interlock :=
  { i with
    openDwell := Timer.after ms i.openDwell
    cooldown := Timer.after ms i.cooldown
    tripList := ageTrips ms i.tripList
    coldDwell := Timer.after ms i.coldDwell
    warmDwell := Timer.after ms i.warmDwell
    lowDwell := Timer.after ms i.lowDwell
    recovery := Timer.after ms i.recovery
    drop := Timer.after ms i.drop
    rise := Timer.after ms i.rise }

end Sys2Proof.Machine
end

