-- ==== Sys2Proof/Machine/Output.lean ====
section
/-! DEFINITION. The output stage (chapter 7): the stage sequencer, forced removals, the fan and the slews. Each function
acts on the output stage alone. -/

namespace Sys2Proof.Machine

/-- Whether the fan is proven (R125). -/
def FanProof.isProven : FanProof → Bool
  | .proven => true
  | .idle | .counting _ => false

/-- Whether a stage may be switched on (R124). -/
def Output.mayStepUp (o : Output) : Bool := o.upDelay.isNone && (0 < o.stagesOn || o.proof.isProven)

/-- One stage switched on: the step-up delay starts and the after-run stops (R124, R138). -/
def Output.stageOn (own : Nat) (o : Output) : Output :=
  { o with stagesOn := o.stagesOn + 1, upDelay := some (Config.stepUp own), afterRun := none }

/-- Stages switched off until `n` are on: the after-run starts where none is left (R138). -/
def Output.stagesDownTo (n : Nat) (o : Output) : Output :=
  { o with stagesOn := n, afterRun := if n = 0 then some Config.afterRun else o.afterRun }

/-- The state of a sequencer that switches nothing and has no step-down delay running (R126, steps 3 and 4). -/
def Output.resting (o : Output) : SeqState :=
  if o.stageTarget ≤ o.stagesOn then .settled else if o.stagesOn = 0 then .waiting else .steppingUp

/-- The sequencer settles (R126). -/
def Output.settle (own : Nat) (o : Output) : Output :=
  if o.downDelay.isSome then { o with seq := .steppingDown }
  else if o.stageTarget < o.stagesOn then
    { o.stagesDownTo (o.stagesOn - 1) with downDelay := some Config.stepDown, seq := .steppingDown }
  else if o.stagesOn < o.stageTarget && o.mayStepUp then
    { o.stageOn own with seq := (o.stageOn own).resting }
  else { o with seq := o.resting }

/-- A stage target handed to the sequencer: one that equals the one before changes nothing (R123, R126). -/
def Output.takeStageTarget (own target : Nat) (o : Output) : Output :=
  if target = o.stageTarget then o else { o with stageTarget := target }.settle own

/-- The stages taken off by a forced removal, both delays stopped (R131, R132). -/
def Output.removeTo (n : Nat) (o : Output) : Output :=
  { o.stagesDownTo n with upDelay := none, downDelay := none }

/-- The settling of a forced removal, with the stage target taken again (R131). -/
def Output.settleRemoval (target : Nat) (o : Output) : Output :=
  if target < o.stagesOn then
    { o with stageTarget := target, downDelay := some Config.stepDown, seq := .steppingDown }
  else { o with stageTarget := target, seq := .settled }

/-- Whether a sequencer state commits one stage more (R134). -/
def SeqState.commits : SeqState → Bool
  | .waiting | .steppingUp => true
  | .settled | .steppingDown => false

/-- The electric claim in watts (R134). -/
def Output.electricClaim (cfg : Settings) (o : Output) : Nat :=
  (o.stagesOn + bit o.seq.commits) * cfg.stagePower

/-- The cooling claim in cu (R135). -/
def Output.coolingClaim (cfg : Settings) (o : Output) : Nat := o.evapPos * cfg.coolRating / 1000

/-- Whether the heating minimum holds the fan (R136, step 2). -/
def Output.heatsFan (o : Output) : Bool := 0 < o.stagesOn || o.seq == .waiting || o.afterRun.isSome

/-- The effective fan target (R136). -/
def Output.effectiveFan (cfg : Settings) (trip : TripState) (supply : SupplyState) (o : Output) : Nat :=
  let held := if o.heatsFan then max cfg.fanHeatMin o.fanTarget else o.fanTarget
  let limited := match supply with
    | .low => min 600 held
    | .normal => held
  match trip with
  | .tripped | .cooldown => 1000
  | .normal | .locked => limited

/-- The combination fault (R139). -/
def Output.combinationFault (cfg : Settings) (o : Output) : Bool :=
  o.fanTarget < cfg.fanHeatMin && (0 < o.stagesOn || o.afterRun.isSome)

/-- Fan proof judged from the position a tick leaves (R125). -/
def FanProof.judge (minimum position : Nat) (p : FanProof) : FanProof :=
  if position < minimum then .idle
  else match p with
    | .idle => .counting 0
    | .counting ms => .counting ms
    | .proven => .proven

/-- Fan proof after `ms` have passed, the count held at its end (R125). -/
def FanProof.after (ms : Nat) : FanProof → FanProof
  | .idle => .idle
  | .counting t => .counting (max t (min (t + ms) Config.fanProofTime))
  | .proven => .proven

/-- Time to the end of the proof's count. -/
def FanProof.left : FanProof → Timer
  | .idle | .proven => none
  | .counting t => some (Config.fanProofTime - t)

/-- A fan tick toward the effective target (R140, R125). -/
def Output.tickFan (cfg : Settings) (effective : Nat) (o : Output) : Output :=
  { o with
    fanPos := slew 50 effective o.fanPos
    proof := o.proof.judge cfg.fanHeatMin (slew 50 effective o.fanPos)
    fanTickIn := some Config.fanPeriod }

/-- A damper tick (R143). -/
def Output.tickDamper (o : Output) : Output :=
  { o with damperPos := slew 100 o.damperTarget o.damperPos, damperTickIn := some Config.damperPeriod }

/-- The evaporator valve's move at a control pass (R141). -/
def Output.moveEvaporator (state : FrostState) (o : Output) : Output :=
  match state with
  | .frost => { o with evapPos := 0 }
  | .clear => { o with evapPos := slew 50 o.evapTarget o.evapPos }

/-- The coolant valve set to its target (R142). -/
def Output.setCoolant (o : Output) : Output := { o with coolantPos := o.coolantTarget }

/-- The valves shut at entry to STANDBY or STARTING (R144, R149). -/
def Output.shutValves (o : Output) : Output := { o with evapPos := 0, coolantPos := 0 }

/-- The targets the output stage takes from its sources (R123), the stage target apart. -/
structure FlowTargets where
  fan     : Nat
  evap    : Nat
  coolant : Nat
  damper  : Nat
  deriving DecidableEq, Repr

/-- The flow targets taken (R123). -/
def Output.takeFlow (t : FlowTargets) (o : Output) : Output :=
  { o with fanTarget := t.fan, evapTarget := t.evap, coolantTarget := t.coolant, damperTarget := t.damper }

/-- The outputs of a service request's argument (10.1). -/
inductive TestOutput where
  | fan | evap | coolant | damper
  | stage (k : Nat)
  deriving DecidableEq, Repr

/-- The output an argument of TEST_OUTPUT names, if any (10.1, R172). -/
def testOutputOf (argument : Nat) : Option TestOutput :=
  match argument with
  | 1 => some .fan
  | 2 => some .evap
  | 3 => some .coolant
  | 4 => some .damper
  | 5 => some (.stage 1)
  | 6 => some (.stage 2)
  | 7 => some (.stage 3)
  | _ => none

/-- A test setting made (R174). -/
def TestSettings.make (output : TestOutput) (value : Nat) (t : TestSettings) : TestSettings :=
  match output with
  | .fan => { t with fan := value }
  | .evap => { t with evap := value }
  | .coolant => { t with coolant := value }
  | .damper => { t with damper := value }
  | .stage k => { t with stages := if 0 < value then k else k - 1 }

end Sys2Proof.Machine
end

