-- ==== Sys2Proof/Machine/Peers.lean ====
section
/-! DEFINITION. The peer block (chapter 3): the table, its ageing, the views other blocks take of it, the source records
and the coolant state. -/

namespace Sys2Proof.Machine

/-- The table with an entry written: in ascending order, an entry of the same number replaced in place (R37, R39). -/
def writeEntry (e : Entry) : List Entry → List Entry
  | [] => [e]
  | x :: xs =>
    if e.number < x.number then e :: x :: xs
    else if e.number = x.number then e :: xs
    else x :: writeEntry e xs

/-- The entry of a number (R37). -/
def entryFor (number : Nat) (table : List Entry) : Option Entry := table.find? (·.number = number)

/-- The table with one entry's state set (R40). -/
def setStanding (number : Nat) (state : EntryState) (table : List Entry) : List Entry :=
  table.map fun e => if e.number = number then { e with state := state } else e

/-- The age at which an entry becomes STALE (R40). -/
def staleAge (cfg : Settings) : Nat := 3 * cfg.period

/-- The age at which an entry becomes LOST, and the duplicate timer's length (R40, R46). -/
def lostAge (cfg : Settings) : Nat := 12 * cfg.period

/-- The table after `ms` have passed: ages grow and are held at 12P (R40). -/
def ageTable (cfg : Settings) (ms : Nat) (table : List Entry) : List Entry :=
  table.map fun e => { e with age := max e.age (min (e.age + ms) (lostAge cfg)) }

/-- Whether a number is adjacent to the own number (00, station numbers). -/
def adjacentTo (own number : Nat) : Bool := number + 1 = own || number = own + 1

/-- The LIVE entries adjacent to the own number. -/
def liveNeighbours (own : Nat) (table : List Entry) : List Entry :=
  table.filter fun e => adjacentTo own e.number && e.state = .live

/-- The adjacent door condition (R43). -/
def adjacentDoor (own : Nat) (table : List Entry) : Bool := (liveNeighbours own table).any (·.door)

/-- The return temperatures offered to the demand unit (R44). -/
def adjacentReturns (own : Nat) (table : List Entry) : List Int := (liveNeighbours own table).filterMap (·.ret)

/-- Whether a record is HEARD, given its silence timer (R48). -/
def fresh (silence : Timer) : Bool := silence.isSome

/-- The budget the BUDGET record offers (R51, R52). -/
def BudgetRecord.offer (cfg : Settings) (r : BudgetRecord) : Nat :=
  if fresh r.silence then r.heard.getD 0 else cfg.blindBudget

/-- The capacity the PLANT record offers (R53, R54). -/
def PlantRecord.offer (cfg : Settings) (r : PlantRecord) : Nat :=
  if fresh r.silence then (if r.fault then 0 else r.capacity.getD 0) else cfg.blindCooling

/-- The coolant state after a PLANT arrival's coolant temperature (R55). -/
def coolantAfter (t : Int) (old : CoolantState) : CoolantState :=
  if 960 ≤ t then .hot else if t < 880 then .cold else old

/-- What the share unit counts for one number other than the own (R42). -/
structure ShareItem where
  demandEl : Nat
  demandC  : Nat
  weight   : Nat
  claimEl  : Nat
  claimC   : Nat
  deriving DecidableEq, Repr

/-- The reserve item of a LOST or ABSENT number (R42). -/
def reserveItem (cfg : Settings) : ShareItem :=
  { demandEl := cfg.reserveEl, demandC := cfg.reserveC, weight := 1, claimEl := 0, claimC := 0 }

/-- The item of a number (R42). -/
def shareItem (cfg : Settings) (table : List Entry) (number : Nat) : ShareItem :=
  match entryFor number table with
  | none => reserveItem cfg
  | some e =>
    match e.state with
    | .lost => reserveItem cfg
    | .live | .stale =>
      { demandEl := e.dEl, demandC := e.dC, weight := if e.priority then 2 else 1, claimEl := e.cEl, claimC := e.cC }

/-- The items of every number from 1 to Z other than the own, in ascending order (R42). -/
def shareItems (cfg : Settings) (own : Nat) (table : List Entry) : List ShareItem :=
  ((List.range' 1 cfg.zones).filter (· ≠ own)).map (shareItem cfg table)

end Sys2Proof.Machine
end

