-- ==== Sys2Proof/Machine/Flags.lean ====
section
/-! DEFINITION. What the coach can see of the station in a REPORT: the flag set, the door flag, the claims, the REPORT's
content, and the values whose change makes an early report due. -/

namespace Sys2Proof.Machine

/-- The configuration values in use. -/
def State.cfg (s : State) : Settings := s.control.cfg

/-- The own number. -/
def State.own (s : State) : Nat := s.control.own

/-- The station is powered and its RESET pin released: it sends and takes in messages (R167). -/
def State.awake (s : State) : Bool := s.pins.powered && !s.pins.resetLow

/-- The station takes in messages: it is awake and has read an idle line since its beginning (R19, R36). -/
def State.attentive (s : State) : Bool := s.awake && s.link.line != .unread

/-- The configuration read is in progress (R167). -/
def Control.reading (c : Control) : Bool := c.state == .starting && c.phase == .reading

/-- The blocks act: from the end of the configuration read onward (R167). -/
def State.acting (s : State) : Bool := s.awake && !s.control.reading

/-- The station is in RUNNING. -/
def State.isRunning (s : State) : Bool := s.control.state == .running

/-- Reports fall due and are sent: every station state but STARTING (R31). -/
def State.reports (s : State) : Bool :=
  match s.control.state with
  | .running | .standby | .test => true
  | .starting => false

/-- The flag set of a REPORT (R32: R10, R164, R168, R56). -/
def State.flags (s : State) : FlagSet where
  retFault := s.sensing.ret.faulty
  disFault := s.sensing.discharge.faulty
  coilFault := s.sensing.coil.faulty
  freshFault := s.sensing.fresh.faulty
  tripped := s.interlock.trip == .tripped || s.interlock.trip == .cooldown
  locked := s.interlock.trip == .locked
  frost := s.interlock.frost == .frost
  supplyLow := s.interlock.supply == .low
  disLimit := s.interlock.discharge < s.cfg.stages
  cfgDefault := s.control.cfgDefault
  cfgClamped := s.control.cfgClamped
  duplicate := s.peers.duplicate.isSome
  panelSilent := !fresh s.peers.panel.silence
  budgetBlind := !fresh s.peers.budget.silence
  plantBlind := !fresh s.peers.plant.silence

/-- The door flag (R101). -/
def State.doorFlag (s : State) : Bool := s.isRunning && s.arbiter.ownDoor

/-- The electric claim (R134). -/
def State.electricClaim (s : State) : Nat := s.output.electricClaim s.cfg

/-- The cooling claim (R135). -/
def State.coolingClaim (s : State) : Nat := s.output.coolingClaim s.cfg

/-- The effective fan target (R136). -/
def State.effectiveFan (s : State) : Nat := s.output.effectiveFan s.cfg s.interlock.trip s.interlock.supply

/-- The values whose change makes an early report due (R33). -/
structure Noticed where
  governing : Mode
  claim     : Nat
  door      : Bool
  flags     : FlagSet
  deriving DecidableEq, Repr

/-- Those values as they stand. -/
def State.noticed (s : State) : Noticed :=
  { governing := s.arbiter.governing, claim := s.electricClaim, door := s.doorFlag, flags := s.flags }

/-- The station state a REPORT carries (R32); in STARTING no REPORT is filled (R31). -/
def reportedState : StationState → ReportedState
  | .running | .starting => .running
  | .standby => .standby
  | .test => .test

/-- The content of a REPORT as it stands (R32). -/
def State.report (s : State) : ReportBody where
  state := reportedState s.control.state
  level := s.arbiter.governing
  priority := s.arbiter.governing == .door
  door := s.doorFlag
  dEl := BitVec.ofNat 8 (s.demand.record.dEl / 100)
  dC := BitVec.ofNat 8 s.demand.record.dC
  cEl := BitVec.ofNat 8 (s.electricClaim / 100)
  cC := BitVec.ofNat 8 s.coolingClaim
  ret := s.sensing.ret.usable.map (BitVec.ofInt 16)
  outside := s.sensing.fresh.usable.map (BitVec.ofInt 16)
  flags := s.flags

end Sys2Proof.Machine
end

