-- ==== Sys2Proof/Machine/Link.lean ====
section
/-! DEFINITION. The link controller (chapter 2): attempts, their ends, the two slots and the report clock. -/

namespace Sys2Proof.Machine

/-! ## The report clock -/

/-- The report period of a station state (R31). -/
def reportPeriod (cfg : Settings) : StationState → Nat
  | .standby => 4 * cfg.period
  | .running | .test | .starting => cfg.period

/-- Time to the next periodic report, from the last completion or the discard after it (R31, R35). -/
def Link.periodicIn (cfg : Settings) (state : StationState) (l : Link) : Timer :=
  match l.sinceDiscard, l.sinceReport with
  | some t, _ => some (reportPeriod cfg state - t)
  | none, some t => some (reportPeriod cfg state - t)
  | none, none => none

/-- Time to the end of the spacing of an early report (R33, R35). -/
def Link.spacingLeft (cfg : Settings) (l : Link) : Nat :=
  match l.sinceReport, l.sinceDiscard with
  | some t, _ => cfg.period / 4 - t
  | none, some t => cfg.period / 4 - t
  | none, none => 0

/-- Whether an attempt of the REPORT slot's content is in progress. -/
def Link.sendingReport (l : Link) : Bool :=
  match l.attempt with
  | some a =>
    match a.content with
    | .report _ => a.live
    | .reply _ => false
  | none => false

/-- Whether the time of the next periodic report is no later than that of an early report (R33). -/
def Link.dueBefore (cfg : Settings) (state : StationState) (l : Link) : Bool :=
  match l.periodicIn cfg state with
  | some t => t ≤ l.spacingLeft cfg
  | none => false

/-- A change that makes an early report due, at the link controller (R30, R33, R34). -/
def Link.notice (cfg : Settings) (state : StationState) (l : Link) : Link :=
  if l.sendingReport then { l with changed := true }
  else if l.reportSlot.isSome || l.firstIn.isSome || l.earlyIn.isSome || l.dueBefore cfg state then l
  else { l with earlyIn := some (l.spacingLeft cfg) }

/-- A waiting REPORT slot brought up to date (R30). -/
def Link.refresh (current : ReportBody) (l : Link) : Link :=
  match l.reportSlot with
  | none => l
  | some _ => if l.sendingReport then l else { l with reportSlot := some current }

/-- What an event means to the link controller: a change of `before`'s noticed values, and the slot's upkeep (R30,
R33). -/
def State.watch (s before : State) : State :=
  let noticed :=
    if s.reports && before.noticed ≠ s.noticed then s.link.notice s.cfg s.control.state else s.link
  { s with link := noticed.refresh s.report }

/-- The REPORT slot filled as a report falls due (R28, R32); a slot already filled is left to its upkeep (R33). -/
def Link.fill (current : ReportBody) (l : Link) : Link :=
  match l.reportSlot with
  | some _ => { l with firstIn := none, earlyIn := none }
  | none => { l with reportSlot := some current, reportCount := 0, firstIn := none, earlyIn := none }

/-- A reply placed in the REPLY slot, an older one replaced (R28). -/
def Link.answer (r : Reply) (l : Link) : Link :=
  { l with
    replySlot := some r
    replyCount := 0
    attempt := match l.attempt with
      | some a =>
        match a.content with
        | .reply _ => some { a with live := false }
        | .report _ => some a
      | none => none }

/-! ## Attempts -/

/-- The content the next attempt sends: the REPORT goes first (R20, R29, R31). -/
def Link.nextContent (mayReport : Bool) (l : Link) : Option Content :=
  match (if mayReport then l.reportSlot else none), l.replySlot with
  | some r, _ => some (.report r)
  | none, some r => some (.reply r)
  | none, none => none

/-- The content of an attempt that can begin now (R20). -/
def Link.ready (mayReport : Bool) (l : Link) : Option Content :=
  match l.line, l.attempt with
  | .idle, none => l.nextContent mayReport
  | _, _ => none

/-- An attempt begins: the line is busy, and no bit of the message has been read back yet (R20, R21). -/
def Link.begin (mayReport : Bool) (l : Link) : Link :=
  match l.ready mayReport with
  | some c => { l with attempt := some { content := c, live := true }, line := .busy, incoming := some [] }
  | none => l

/-- An attempt completes (R23, R28, R30, R36): the message it sent is at its end and goes to no block. -/
def Link.complete (cfg : Settings) (l : Link) : Link :=
  match l.attempt with
  | none => l
  | some a =>
    let ended := { l with attempt := none, line := .busy, incoming := none }
    match a.live, a.content with
    | false, _ => ended
    | true, .reply _ => { ended with replySlot := none, replyCount := 0 }
    | true, .report _ =>
      { ended with
        reportSlot := none, reportCount := 0, sinceReport := some 0, sinceDiscard := none, changed := false
        earlyIn := if l.changed then some (cfg.period / 4) else none }

/-- An attempt fails (R21, R22, R24, R35): the sixteenth failure discards the content. The bits read so far stay, as the
first of the message that is on the line. -/
def Link.fail (l : Link) : Link :=
  match l.attempt with
  | none => l
  | some a =>
    let ended := { l with attempt := none, line := .busy }
    match a.live, a.content with
    | false, _ => ended
    | true, .reply _ =>
      if l.replyCount + 1 < Config.maxFailures then { ended with replyCount := l.replyCount + 1 }
      else { ended with replySlot := none, replyCount := 0 }
    | true, .report _ =>
      if l.reportCount + 1 < Config.maxFailures then
        { ended with changed := false, reportCount := l.reportCount + 1 }
      else { ended with changed := false, reportSlot := none, reportCount := 0, sinceDiscard := some 0 }

/-! ## The line -/

/-- No message but one of the station's own is being read any more. -/
def Link.messageOver (l : Link) : Link :=
  match l.attempt with
  | some _ => l
  | none => { l with incoming := none }

/-- Twelve bit times of 1 have been read (R19). -/
def Link.idled (l : Link) : Link := { l.messageOver with line := .idle }

/-- A message of another station has ended: the line is busy until it is next idle (R19, R25). -/
def Link.heard (l : Link) : Link := { l.messageOver with line := .busy }

/-- The link controller at a restart (R36). -/
def Link.restarted (l : Link) : Link :=
  { l with
    reportSlot := none, reportCount := 0, sinceReport := none, sinceDiscard := none, firstIn := none,
    earlyIn := none, changed := false
    attempt := match l.attempt with
      | some a =>
        match a.content with
        | .report _ => some { a with live := false }
        | .reply _ => some a
      | none => none }

/-- Whether a content is the OK reply to RESTART (R176). -/
def Reply.isRestartOk (r : Reply) : Bool := r.kind == .restart && r.result == .ok

/-- Whether the OK reply to RESTART is still in the REPLY slot or being sent (R176). -/
def Link.holdsRestartOk (l : Link) : Bool :=
  (match l.replySlot with
   | some r => r.isRestartOk
   | none => false)
  || (match l.attempt with
      | some a =>
        match a.content with
        | .reply r => r.isRestartOk
        | .report _ => false
      | none => false)

/-- The restart takes effect now: pending, and its OK reply has left the slot (R176). -/
def State.restartDue (s : State) : Bool := s.control.restartPending && !s.link.holdsRestartOk

/-- The link controller's counts after `ms` have passed. -/
def Link.after (ms : Nat) (l : Link) : Link :=
  { l with
    sinceReport := l.sinceReport.map (· + ms)
    sinceDiscard := l.sinceDiscard.map (· + ms)
    firstIn := Timer.after ms l.firstIn
    earlyIn := Timer.after ms l.earlyIn }

/-! ## The bytes of a content -/

/-- The code of a request kind (10.1). -/
def RequestKind.code : RequestKind → Byte
  | .readStatus => 1#8 | .readPeer => 2#8 | .readConfig => 3#8 | .testOutput => 4#8 | .endTest => 5#8
  | .restart => 6#8 | .clearLock => 7#8

/-- The code of a result (10.1). -/
def Result.code : Result → Byte
  | .ok => 0#8 | .busy => 1#8 | .refused => 2#8 | .notPresent => 3#8

/-- The whole message of a slot's content, with its check (10.1, R179). -/
def Content.message (own : Nat) : Content → List Byte
  | .report r => withCheck (priorityKey 5 own :: r.bytes)
  | .reply r =>
    withCheck ([priorityKey 6 own, r.kind.code, r.result.code, BitVec.ofNat 8 r.payload.length] ++ r.payload)

end Sys2Proof.Machine
end

