-- ==== Sys2Proof/Machine/Share.lean ====
section
/-! DEFINITION. The share unit's computation of the allowance (chapter 5). -/

namespace Sys2Proof.Machine

/-- The electric budget in use (R82). -/
def budgetInUse (cfg : Settings) (p : Peers) : Nat :=
  if p.duplicate.isSome then cfg.blindBudget else p.budget.offer cfg

/-- The cooling budget in use (R82). -/
def coolingInUse (cfg : Settings) (p : Peers) : Nat :=
  if p.duplicate.isSome then cfg.blindCooling else p.plant.offer cfg

/-- The own weight g_own (R83). -/
def ownWeight (governing : Mode) : Nat :=
  match governing with
  | .door => 2
  | .auto | .economy | .vent | .precond | .boost | .purge => 1

/-- The weighted sum of a resource (R84): the own term and one term for each other number. -/
def weightedSum (own : Nat) (terms : List Nat) : Nat := own + terms.sum

/-- The share of a resource (R84, R85). -/
def shareOf (budget weight demand sum : Nat) : Nat :=
  if demand = 0 then 0 else budget * (weight * demand) / sum

/-- The headroom of a resource (R86). -/
def headroom (budget : Nat) (claims : List Nat) : Nat := budget - claims.sum

/-- The overload cap on the electric allowance, in force while the hold runs (R89, R92). -/
def capped (hold : Timer) (cap n : Nat) : Nat := if hold.isSome then min cap n else n

/-- The electric allowance n_el (R84, R89). -/
def electricAllowance (cfg : Settings) (wanted demand share head : Nat) (hold : Timer) (cap : Nat) : Nat :=
  if demand = 0 ∨ cfg.stagePower = 0 then 0
  else capped hold cap
    (min wanted (min ((share + cfg.stagePower / 2) / cfg.stagePower) (head / cfg.stagePower)))

/-- The cooling allowance A_c (R84, R88). -/
def coolingAllowance (state : FrostState) (demand share head : Nat) : Nat :=
  match state with
  | .frost => 0
  | .clear => if demand = 0 then 0 else min share (min head demand)

/-- What a recomputation reads (R80). -/
structure ShareInputs where
  cfg       : Settings
  own       : Nat
  peers     : Peers
  governing : Mode
  frost     : FrostState
  wanted    : Nat
  demandEl  : Nat
  demandC   : Nat
  hold      : Timer
  cap       : Nat
  deriving DecidableEq, Repr

/-- A recomputation of the allowance (R81 to R91). A side with no demand is not share-limited (R84; log 15). -/
def allowance (x : ShareInputs) : Share :=
  let items := shareItems x.cfg x.own x.peers.table
  let g := ownWeight x.governing
  let bEl := budgetInUse x.cfg x.peers
  let bC := coolingInUse x.cfg x.peers
  let wEl := weightedSum (g * x.demandEl) (items.map fun i => i.weight * i.demandEl)
  let wC := weightedSum (g * x.demandC) (items.map fun i => i.weight * i.demandC)
  let sEl := shareOf bEl g x.demandEl wEl
  let sC := shareOf bC g x.demandC wC
  let hEl := headroom bEl (items.map (·.claimEl))
  let hC := headroom bC (items.map (·.claimC))
  let n := electricAllowance x.cfg x.wanted x.demandEl sEl hEl x.hold x.cap
  let a := coolingAllowance x.frost x.demandC sC hC
  { nEl := n, aC := a, heatLimited := 0 < x.demandEl && n < x.wanted, coolLimited := a < x.demandC,
    shareEl := sEl, shareC := sC, headEl := hEl, headC := hC, weightedEl := wEl, weightedC := wC,
    budgetEl := bEl, budgetC := bC, hold := x.hold, cap := x.cap }

end Sys2Proof.Machine
end

