-- ==== Sys2Proof/Machine/Status.lean ====
section
/-! DEFINITION. The payloads of the reading requests (R45, R173, 10.1). The widths follow 10.1; the items stand in the
order their rules list them (log 12). A state for which 10.1 gives no code is carried as the free value
Config.statusCode (log 10). -/

namespace Sys2Proof.Machine

/-- A flag, mark or count of one byte (10.1). -/
def byteOf (n : Nat) : List Byte := [BitVec.ofNat 8 n]

/-- A flag or mark of one byte, 1 while set (10.1). -/
def flagByte (b : Bool) : List Byte := byteOf (bit b)

/-- A quantity of two bytes (10.1). -/
def quantity (n : Nat) : List Byte := wordBytes (BitVec.ofNat 16 n)

/-- A signed quantity of two bytes (10.1). -/
def signedQuantity (x : Int) : List Byte := wordBytes (BitVec.ofInt 16 x)

/-- Four bytes, high byte first (10.1). -/
def fourBytes (w : BitVec 32) : List Byte := wordBytes (w.extractLsb' 16 16) ++ wordBytes (w.extractLsb' 0 16)

/-- A quantity of four bytes (10.1). -/
def longQuantity (n : Nat) : List Byte := fourBytes (BitVec.ofNat 32 n)

/-- A time of two bytes, 0 while stopped (10.1). -/
def timeBytes (t : Timer) : List Byte := quantity (t.getD 0)

/-- A time of four bytes, 0 while stopped (10.1). -/
def longTimeBytes (t : Timer) : List Byte := longQuantity (t.getD 0)

/-- A temperature that may be absent: presence byte and value (10.1). -/
def optionalSigned (x : Option Int) : List Byte := flagByte x.isSome ++ signedQuantity (x.getD 0)

/-- A quantity that may be absent: presence byte and value (10.1). -/
def optionalQuantity (x : Option Nat) : List Byte := flagByte x.isSome ++ quantity (x.getD 0)

/-- A state of one byte for which 10.1 gives no code (log 10). -/
def codeByte (c : Config.Coded) : List Byte := [Config.statusCode c]

/-- A station state; STARTING has no code in 10.1 (log 10). -/
def stationStateByte : StationState → List Byte
  | .starting => codeByte .starting
  | .running => [ReportedState.running.code]
  | .standby => [ReportedState.standby.code]
  | .test => [ReportedState.test.code]

/-- Station control's section, 12 bytes (R173). Outside STARTING the phase carried is LISTENING: DESIGN CHOICE (log 32). -/
def controlSection (c : Control) : List Byte :=
  stationStateByte c.state
    ++ codeByte (match c.phase with | .reading => .phaseReading | .listening => .phaseListening)
    ++ codeByte (match c.cause with | .cold => .causeCold | .pin => .causePin | .restart => .causeRestart)
    ++ byteOf c.own ++ timeBytes c.listen ++ longTimeBytes c.test ++ flagByte c.cfgDefault ++ flagByte c.cfgClamped

/-- One temperature channel in the sensing section (R10). -/
def channelBytes (c : ChannelData) : List Byte :=
  codeByte (match c.state with | .good => .channelGood | .fault => .channelFault)
    ++ codeByte (match c.kind with | .none => .kindNone | .short => .kindShort | .open => .kindOpen)
    ++ optionalSigned c.filtered

/-- The sensing unit's section, 26 bytes (R10). -/
def sensingSection (x : Sensing) : List Byte :=
  channelBytes x.ret ++ channelBytes x.discharge ++ channelBytes x.coil ++ channelBytes x.fresh
    ++ optionalQuantity x.supply ++ signedQuantity x.outside
    ++ codeByte (match x.source with
        | .own => .outsideOwn | .peers => .outsidePeers | .held => .outsideHeld | .default => .outsideDefault)

/-- The freshness state of a source record. -/
def freshnessByte (silence : Timer) : List Byte :=
  codeByte (if fresh silence then .recordHeard else .recordSilent)

/-- The peer block's section, 33 bytes (R56). -/
def peerSection (cfg : Settings) (p : Peers) : List Byte :=
  flagByte p.duplicate.isSome ++ flagByte (!fresh p.panel.silence) ++ flagByte (!fresh p.budget.silence)
    ++ flagByte (!fresh p.plant.silence)
    ++ freshnessByte p.panel.silence ++ [p.panel.mode.code] ++ signedQuantity p.panel.setpoint
    ++ timeBytes p.panel.silence
    ++ freshnessByte p.budget.silence ++ optionalQuantity p.budget.heard ++ timeBytes p.budget.silence
    ++ freshnessByte p.plant.silence ++ optionalQuantity p.plant.capacity ++ optionalSigned p.plant.coolant
    ++ timeBytes p.plant.silence
    ++ flagByte p.plant.fault
    ++ codeByte (match p.coolant with | .hot => .coolantHot | .cold => .coolantCold)
    ++ timeBytes p.duplicate ++ quantity (p.budget.offer cfg) ++ quantity (p.plant.offer cfg)

/-- The demand record's section, 26 bytes (R77). -/
def demandSection (r : DemandRecord) : List Byte :=
  optionalSigned r.spEff ++ optionalSigned r.tRet
    ++ codeByte (match r.source with | .own => .returnOwn | .adjacent => .returnAdjacent | .held => .returnHeld)
    ++ signedQuantity r.error ++ signedQuantity r.u ++ fourBytes (BitVec.ofInt 32 r.iAcc)
    ++ quantity r.heat ++ quantity r.cool ++ quantity r.coolantTarget ++ byteOf r.stagesWanted
    ++ quantity r.dEl ++ quantity r.dC

/-- The allowance record's section, 28 bytes, the last two unused (R91). While the hold is stopped the cap carried is
0: DESIGN CHOICE (log 28). -/
def shareSection (x : Share) : List Byte :=
  byteOf x.nEl ++ quantity x.aC ++ flagByte x.heatLimited ++ flagByte x.coolLimited
    ++ quantity x.shareEl ++ quantity x.shareC ++ quantity x.headEl ++ quantity x.headC
    ++ longQuantity x.weightedEl ++ quantity x.weightedC ++ quantity x.budgetEl ++ quantity x.budgetC
    ++ timeBytes x.hold ++ byteOf x.cap ++ [0#8, 0#8]

/-- A set of marks, ECONOMY to DOOR (10.1). -/
def marksBytes (m : Marks) : List Byte :=
  flagByte m.economy ++ flagByte m.vent ++ flagByte m.precond ++ flagByte m.boost ++ flagByte m.purge
    ++ flagByte m.door

/-- The place of the mode stack at an index from the bottom, 0 beyond the count (10.1). -/
def stackPlace (bottomFirst : List StackEntry) (i : Nat) : List Byte :=
  match bottomFirst[i]? with
  | some e => byteOf e.mode.level ++ flagByte e.retired
  | none => [0#8, 0#8]

/-- The mode arbiter's section, 38 bytes (R119); modes are carried as their levels (log 12). -/
def arbiterSection (own : Nat) (table : List Entry) (a : Arbiter) : List Byte :=
  byteOf a.governing.level ++ marksBytes a.pending ++ marksBytes a.active
    ++ byteOf a.stack.length ++ stackPlace a.stack.reverse 0 ++ stackPlace a.stack.reverse 1
    ++ stackPlace a.stack.reverse 2
    ++ longTimeBytes a.precondTimer ++ longTimeBytes a.boostTimer ++ longTimeBytes a.purgeTimer
    ++ flagByte a.ownDoor ++ flagByte a.dwell.isSome ++ flagByte (adjacentDoor own table) ++ flagByte a.cause
    ++ timeBytes a.tail

/-- The fan proof: proven or not, and the time counted (log 12). A proven fan carries 5000: DESIGN CHOICE (log 29). -/
def proofBytes : FanProof → List Byte
  | .idle => flagByte false ++ quantity 0
  | .counting ms => flagByte false ++ quantity ms
  | .proven => flagByte true ++ quantity Config.fanProofTime

/-- The test settings, carried while TEST lasts (R147); elsewhere zeros are carried, whatever the settings held: DESIGN
CHOICE (log 30). -/
def settingsBytes (testing : Bool) (t : TestSettings) : List Byte :=
  let shown := if testing then t else TestSettings.zero
  quantity shown.fan ++ quantity shown.evap ++ quantity shown.coolant ++ quantity shown.damper
    ++ byteOf shown.stages

/-- The output stage's section, 47 bytes (R147). -/
def outputSection (s : State) : List Byte :=
  let o := s.output
  codeByte (match o.seq with
      | .settled => .settled | .waiting => .waiting | .steppingUp => .steppingUp | .steppingDown => .steppingDown)
    ++ byteOf o.stagesOn ++ byteOf o.stageTarget ++ byteOf s.interlock.ceiling
    ++ timeBytes o.upDelay ++ timeBytes o.downDelay ++ proofBytes o.proof ++ timeBytes o.afterRun
    ++ flagByte (o.combinationFault s.cfg) ++ quantity o.fanTarget ++ quantity s.effectiveFan
    ++ quantity s.effectiveFan ++ quantity o.fanPos ++ quantity o.evapTarget ++ quantity o.evapPos
    ++ quantity o.coolantTarget ++ quantity o.coolantPos ++ quantity o.damperTarget ++ quantity o.damperPos
    ++ settingsBytes (s.control.state == .test) o.settings
    ++ quantity s.electricClaim ++ quantity s.coolingClaim

/-- The place of the trip list at an index, oldest first, 0 beyond the count (10.1). -/
def tripPlace (ages : List Nat) (i : Nat) : List Byte := longQuantity (ages.getD i 0)

/-- The interlock unit's section, 39 bytes (R164). The order of the three states and of the eight dwells and timers is a
DESIGN CHOICE (log 31). -/
def interlockSection (cfg : Settings) (contactOpen : Bool) (i : Interlock) : List Byte :=
  codeByte (match i.trip with
      | .normal => .tripNormal | .tripped => .tripTripped | .cooldown => .tripCooldown | .locked => .tripLocked)
    ++ codeByte (match i.frost with | .clear => .frostClear | .frost => .frostFrost)
    ++ codeByte (match i.supply with | .normal => .supplyNormal | .low => .supplyLow)
    ++ codeByte (if contactOpen then .contactOpen else .contactClosed)
    ++ timeBytes i.openDwell ++ timeBytes i.cooldown ++ timeBytes i.coldDwell ++ timeBytes i.warmDwell
    ++ timeBytes i.lowDwell ++ timeBytes i.recovery ++ timeBytes i.drop ++ timeBytes i.rise
    ++ byteOf i.tripList.length ++ tripPlace i.tripList 0 ++ tripPlace i.tripList 1 ++ tripPlace i.tripList 2
    ++ quantity cfg.supplyEntry ++ quantity cfg.supplyExit ++ byteOf i.discharge ++ byteOf i.ceiling

/-- The payload of an OK reply to READ_STATUS (R173). -/
def statusPayload (s : State) : List Byte :=
  controlSection s.control ++ sensingSection s.sensing ++ peerSection s.cfg s.peers
    ++ demandSection s.demand.record ++ shareSection s.share ++ arbiterSection s.own s.peers.table s.arbiter
    ++ outputSection s ++ interlockSection s.cfg s.pins.contactOpen s.interlock

/-- The code of an entry state (10.1). -/
def EntryState.code : EntryState → Byte
  | .live => 0#8 | .stale => 1#8 | .lost => 2#8

/-- The fields of an entry in the form of REPORT bytes 1 to 13 (10.1). -/
def Entry.asReport (e : Entry) : ReportBody where
  state := e.heard
  level := e.level
  priority := e.priority
  door := e.door
  dEl := BitVec.ofNat 8 (e.dEl / 100)
  dC := BitVec.ofNat 8 e.dC
  cEl := BitVec.ofNat 8 (e.cEl / 100)
  cC := BitVec.ofNat 8 e.cC
  ret := e.ret.map (BitVec.ofInt 16)
  outside := e.outside.map (BitVec.ofInt 16)
  flags := e.flags

/-- The payload of an OK reply to READ_PEER (R45, 10.1). -/
def peerPayload (e : Entry) : List Byte :=
  byteOf e.number ++ [e.state.code] ++ quantity e.age ++ e.asReport.bytes

/-- The payload of a NOT_PRESENT reply to READ_PEER: 17 bytes of zero (R173). -/
def absentPayload : List Byte := List.replicate 17 0#8

/-- The configuration values in use in the form of configuration bytes 0 to 37 (10.2). -/
def settingsForm (c : Settings) : List Byte :=
  byteOf c.zones ++ quantity c.period ++ flagByte c.doorZone ++ flagByte c.followAdjacent ++ flagByte c.freshFitted
    ++ byteOf c.stages ++ byteOf (c.stagePower / 100) ++ byteOf c.coolRating ++ quantity c.coolantShare
    ++ [BitVec.ofInt 8 c.offset] ++ byteOf c.kp ++ byteOf c.ki ++ byteOf c.deadBand
    ++ quantity c.fanMin ++ quantity c.fanHeatMin ++ quantity c.ventSpeed ++ quantity c.minFresh
    ++ quantity c.reserveEl ++ byteOf c.reserveC ++ quantity c.blindBudget ++ quantity c.blindCooling
    ++ quantity c.supplyEntry ++ quantity c.supplyExit
    ++ [BitVec.ofInt 8 c.trimRet, BitVec.ofInt 8 c.trimDischarge, BitVec.ofInt 8 c.trimCoil,
        BitVec.ofInt 8 c.trimFresh]

/-- The payload of an OK reply to READ_CONFIG (R173, 10.1); bytes 38 to 61 have no field and are free (log 11). -/
def configPayload (c : Control) : List Byte :=
  settingsForm c.cfg ++ (List.range 24).map Config.configFiller
    ++ byteOf (bit c.cfgDefault + 2 * bit c.cfgClamped)

end Sys2Proof.Machine
end

