-- ==== Sys2Proof/Machine/Ops.lean ====
section
/-! DEFINITION. The shared operations on the whole station: time, recomputation of the allowance, targets and ceiling
handed on, the arbiter's outcome handed on, entries to the station states, and the forms every meaning has. -/

namespace Sys2Proof.Machine

/-! ## Time -/

/-- Station control's timers after `ms` have passed. -/
def Control.after (ms : Nat) (c : Control) : Control :=
  { c with listen := Timer.after ms c.listen, test := Timer.after ms c.test, read := Timer.after ms c.read }

/-- The peer block's ages and timers after `ms` have passed (R40, R46, R48). -/
def Peers.after (cfg : Settings) (ms : Nat) (p : Peers) : Peers :=
  { p with
    table := ageTable cfg ms p.table
    duplicate := Timer.after ms p.duplicate
    panel := { p.panel with silence := Timer.after ms p.panel.silence }
    budget := { p.budget with silence := Timer.after ms p.budget.silence }
    plant := { p.plant with silence := Timer.after ms p.plant.silence } }

/-- The demand unit's pass timer after `ms` have passed (R59). -/
def Demand.after (ms : Nat) (d : Demand) : Demand := { d with passTimer := Timer.after ms d.passTimer }

/-- The overload hold after `ms` have passed (R91). -/
def Share.after (ms : Nat) (x : Share) : Share := { x with hold := Timer.after ms x.hold }

/-- The arbiter's timers after `ms` have passed (R101, R103, R113). -/
def Arbiter.after (ms : Nat) (a : Arbiter) : Arbiter :=
  { a with
    precondTimer := Timer.after ms a.precondTimer
    boostTimer := Timer.after ms a.boostTimer
    purgeTimer := Timer.after ms a.purgeTimer
    dwell := Timer.after ms a.dwell
    tail := Timer.after ms a.tail }

/-- The output stage's delays and counts after `ms` have passed (R124, R125, R138). -/
def Output.after (ms : Nat) (o : Output) : Output :=
  { o with
    upDelay := Timer.after ms o.upDelay
    downDelay := Timer.after ms o.downDelay
    proof := o.proof.after ms
    afterRun := Timer.after ms o.afterRun
    fanTickIn := Timer.after ms o.fanTickIn
    damperTickIn := Timer.after ms o.damperTickIn }

/-- `ms` pass with no event: every running timer comes nearer its end and stops counting there, every age grows. -/
def State.elapse (ms : Nat) (s : State) : State :=
  { s with
    control := s.control.after ms
    link := s.link.after ms
    peers := s.peers.after s.cfg ms
    demand := s.demand.after ms
    share := s.share.after ms
    arbiter := s.arbiter.after ms
    output := s.output.after ms
    interlock := s.interlock.after ms }

/-! ## Targets, allowance and ceiling -/

/-- The stage target of the station state (R123). In TEST it is formed from the test stage setting also where the ceiling
changes, of which R131 and R163 say min(n_el, ceiling) (log 36). -/
def State.stageTarget (s : State) : Nat :=
  match s.control.state with
  | .running => min s.share.nEl s.interlock.ceiling
  | .test => capped s.share.hold s.share.cap (min s.output.settings.stages s.interlock.ceiling)
  | .starting | .standby => 0

/-- The evaporator target of an allowance (R123). -/
def evaporatorTarget (cfg : Settings) (aC : Nat) : Nat :=
  if cfg.coolRating = 0 then 0 else aC * 1000 / cfg.coolRating

/-- The flow targets of the station state (R123). -/
def State.flowTargets (s : State) : FlowTargets :=
  match s.control.state with
  | .running =>
    { fan := modeFan s.cfg s.arbiter.governing s.demand.record.u, evap := evaporatorTarget s.cfg s.share.aC,
      coolant := s.demand.record.coolantTarget, damper := modeDamper s.cfg s.arbiter.governing }
  | .test =>
    { fan := s.output.settings.fan, evap := s.output.settings.evap, coolant := s.output.settings.coolant,
      damper := s.output.settings.damper }
  | .starting | .standby => { fan := 0, evap := 0, coolant := 0, damper := 0 }

/-- The targets taken by the output stage (R123). -/
def State.takeTargets (s : State) : State :=
  { s with output := (s.output.takeFlow s.flowTargets).takeStageTarget s.own s.stageTarget }

/-- What a recomputation reads of the station (R80). -/
def State.shareInputs (s : State) : ShareInputs where
  cfg := s.cfg
  own := s.own
  peers := s.peers
  governing := s.arbiter.governing
  frost := s.interlock.frost
  wanted := s.demand.record.stagesWanted
  demandEl := s.demand.record.dEl
  demandC := s.demand.record.dC
  hold := s.share.hold
  cap := s.share.cap

/-- A new allowance record, not yet handed on (R81). -/
def State.reckon (s : State) : State := { s with share := allowance s.shareInputs }

/-- A recomputation of the allowance, handed to the output stage (R81). -/
def State.recompute (s : State) : State := s.reckon.takeTargets

/-- The effective ceiling formed afresh and, where it has changed, handed to the output stage (R131, R163). -/
def State.handCeiling (s : State) : State :=
  let ceiling := s.interlock.effectiveCeiling
  if ceiling = s.interlock.ceiling then s
  else
    let s1 : State := { s with interlock := { s.interlock with ceiling := ceiling } }
    if ceiling < s.output.stagesOn then
      { s1 with output := ((s1.output.takeFlow s1.flowTargets).removeTo ceiling).settleRemoval s1.stageTarget }
    else s1.takeTargets

/-- A change of the interlock unit with its ceiling handed on. -/
def State.protect (f : Interlock → Interlock) (s : State) : State :=
  State.handCeiling { s with interlock := f s.interlock }

/-- A change of the FROST state handed on: the evaporator shut in FROST, the allowance recomputed (R156). -/
def State.handFrost (s : State) : State :=
  match s.interlock.frost with
  | .frost => State.recompute { s with output := { s.output with evapPos := 0 } }
  | .clear => s.recompute

/-! ## The arbiter's outcome handed on -/

/-- A change of the arbiter, the governing mode it leaves handed on where it differs (R98). -/
def State.arbitrate (f : Arbiter → Arbiter) (s : State) : State :=
  let s1 : State := { s with arbiter := f s.arbiter }
  if s1.arbiter.governing = s.arbiter.governing then s1 else s1.recompute

/-- Whether the DOOR cause holds as its conditions stand (R102). -/
def State.doorCause (s : State) : Bool :=
  s.arbiter.ownDoor || (s.cfg.followAdjacent && adjacentDoor s.own s.peers.table)

/-- The DOOR cause re-evaluated (R102, R103). -/
def State.judgeDoor (s : State) : State := s.arbitrate (Arbiter.judgeCause s.doorCause s.isRunning)

/-! ## The peer table's events handed on -/

/-- The outside temperature selected again (R13). -/
def State.selectAgain (s : State) : State :=
  { s with sensing := selectOutside s.cfg.freshFitted s.peers.table s.sensing }

/-- An event of the entry of `number` handed to the share unit, the outside selection and, for a neighbour, the mode
arbiter (R41; log 17). -/
def State.handEntry (number : Nat) (s : State) : State :=
  let s1 := s.recompute.selectAgain
  if adjacentTo s.own number then s1.judgeDoor else s1

/-! ## Entries to the station states -/

/-- Entry to STANDBY (R79, R96, R122, R144, R178). A cap that is not in force is held as 0: DESIGN CHOICE (log 28). -/
def State.enterStandby (s : State) : State :=
  State.recompute
    { s with
      control := { s.control with state := .standby, listen := none, test := none }
      demand := .initial
      share := { s.share with hold := none, cap := 0 }
      arbiter := s.arbiter.cleared
      output := s.output.shutValves }

/-- The pass timer at an entry to RUNNING: started, but for an entry from TEST, where it runs on (R59). -/
def passTimerAtRunning (state : StationState) (t : Timer) : Timer :=
  match state with
  | .test => t
  | .starting | .running | .standby => some Config.passPeriod

/-- Entry to RUNNING (R59, R104, R145, R178). -/
def State.enterRunning (s : State) : State :=
  State.takeTargets
    (State.arbitrate (Arbiter.raiseAtEntry s.peers.panel.mode)
      { s with
        control := { s.control with state := .running, listen := none, test := none }
        demand := { s.demand with passTimer := passTimerAtRunning s.control.state s.demand.passTimer } })

/-- A test setting made, taking effect at once (R123, R142, R146). -/
def State.makeSetting (output : TestOutput) (value : Nat) (s : State) : State :=
  let s1 := State.takeTargets { s with output := { s.output with settings := s.output.settings.make output value } }
  { s1 with output := s1.output.setCoolant }

/-- The test timer started, and TEST entered where it is not yet (R59, R146, R174). -/
def State.enterTest (s : State) : State :=
  { s with
    control := { s.control with state := .test, test := some Config.testTime }
    demand := { s.demand with passTimer := some Config.passPeriod }
    output := { s.output with settings := .zero } }

/-- The restart takes effect (R176: R36, R58, R78, R95, R121, R149, R156, R158, R161). -/
def State.restarted (s : State) : State :=
  let s1 : State :=
    { s with
      control := { s.control with
        state := .starting, phase := .listening, cause := .restart, listen := some (2 * s.cfg.period),
        test := none, restartPending := false }
      link := s.link.restarted
      peers := { s.peers with duplicate := none }
      demand := .initial
      share := .initial
      arbiter := s.arbiter.cleared
      output := { s.output.shutValves with settings := .zero }
      interlock := s.interlock.begins s.cfg.stages }
  s1.handCeiling.takeTargets

/-! ## The forms of a meaning -/

/-- An event of the blocks that act from the end of the configuration read onward; before it there is none (R167). -/
def State.whenActing (f : State → State) (s : State) : State := if s.acting then (f s).watch s else s

/-- The expiry of a timer: one that is stopped does not expire; time left to it passes first (log 2). -/
def State.onExpiry (t : Timer) (f : State → State) (s : State) : State :=
  match t with
  | none => s
  | some left => (f (s.elapse left)).watch s

/-- The restart, where it is due: within the event by which the OK reply leaves the REPLY slot (R176; log 6). -/
def State.settleRestart (s : State) : State := if s.restartDue then s.restarted else s

/-- A message of another station at its end (R19, R25). -/
def State.hears (s : State) : State := { s with link := s.link.heard }

/-- The arrival of an accepted message that is no service request (R27). A station that has read no idle line since its
beginning takes in no message (R19, R36). -/
def State.onMessage (f : State → State) (s : State) : State :=
  if s.attentive then
    if s.control.reading then s.hears else (f s.hears).watch s
  else s

/-- A reply placed in the REPLY slot (R172). -/
def State.reply (kind : RequestKind) (result : Result) (payload : List Byte) (s : State) : State :=
  { s with link := s.link.answer { kind := kind, result := result, payload := payload } }

/-- A service request: dropped unless the own number is its target (R27), answered BUSY while reading or while a restart
is pending (R172); a BUSY that replaces the OK to RESTART lets the restart take effect (R176). -/
def State.onRequest (kind : RequestKind) (target : Fin 32) (f : State → State) (s : State) : State :=
  if s.attentive then
    if target.val = s.own then
      if s.control.reading || s.control.restartPending then (s.hears.reply kind .busy []).settleRestart
      else (f s.hears).watch s
    else s.hears
  else s

end Sys2Proof.Machine
end

