-- ==== Sys2Proof/Machine/Arrivals.lean ====
section
/-! DEFINITION. The meanings of the arrivals (chapters 2, 3, 5, 6): OVERLOAD_ARRIVAL, POST_ARRIVAL, BUDGET_ARRIVAL,
PLANT_ARRIVAL, PANEL_ARRIVAL, REPORT_ARRIVAL. -/

namespace Sys2Proof.Machine

/-! ## OVERLOAD -/

/-- The share unit at an OVERLOAD: in RUNNING and TEST the hold starts with its cap (R92, R93), and in every state but
STANDBY the allowance is formed afresh (R80, R96; log 21). -/
def State.shareAtOverload (s : State) : State :=
  match s.control.state with
  | .running | .test =>
    State.reckon
      { s with share := { s.share with hold := some (Config.overloadHold s.own), cap := s.output.stagesOn - 1 } }
  | .starting => s.reckon
  | .standby => s

/-- An OVERLOAD (R92, R132): one stage off at once where one is on, with the targets taken as they now stand. -/
def State.overload (s : State) : State :=
  let s1 := s.shareAtOverload
  if 0 < s.output.stagesOn then
    let o := s.output.removeTo (s.output.stagesOn - 1)
    { s1 with output := (o.takeFlow s1.flowTargets).settleRemoval s1.stageTarget }
  else s1.takeTargets

/-! ## POST -/

/-- The mode a POST names (R100). -/
def postMode : PostCondition → Mode
  | .purge => .purge
  | .boost => .boost
  | .precond => .precond

/-- A POST at the arbiter (R100, R104). -/
def Arbiter.post (running : Bool) (m : Mode) (action : PostAction) (a : Arbiter) : Arbiter :=
  match action with
  | .raise => if running then a.raise m else a
  | .finish => a.finish m

/-- Whether a POST is accepted and for this station (R26, R27). -/
def postTaken (own source target : Nat) : Bool := assigned source && (target == 0 || target == own)

/-- A POST taken or dropped (R26, R27, R100). -/
def State.post (source : Nat) (condition : PostCondition) (action : PostAction) (target : Nat) (s : State) : State :=
  if postTaken s.own source target then s.arbitrate (Arbiter.post s.isRunning (postMode condition) action) else s

/-! ## Source records -/

/-- A BUDGET stored (R48, R51). -/
def Peers.takeBudget (units : Word) (p : Peers) : Peers :=
  { p with budget := { heard := some (budgetOf units), silence := some Config.budgetTimeout } }

/-- A PLANT stored and the coolant state evaluated (R48, R53, R55). -/
def Peers.takePlant (capacity coolant : Word) (fault : Bool) (p : Peers) : Peers :=
  { p with
    plant := { capacity := some (capacityOf capacity), coolant := some (temperatureOf coolant), fault := fault,
               silence := some Config.plantTimeout }
    coolant := coolantAfter (temperatureOf coolant) p.coolant }

/-- A PANEL stored (R48, R49). -/
def Peers.takePanel (mode : PanelMode) (setpoint : Word) (p : Peers) : Peers :=
  { p with panel := { mode := mode, setpoint := setpointOf setpoint, silence := some Config.panelTimeout } }

/-- The move of the station state that a PANEL brings (R166, R170): `changed` is whether its mode is new, `silent`
whether the record was SILENT before it. -/
def State.followPanel (changed silent : Bool) (s : State) : State :=
  match s.control.state, s.peers.panel.mode with
  | .running, .off => if changed || silent then s.enterStandby else s
  | .standby, .auto | .standby, .vent | .standby, .economy | .test, .auto | .test, .vent | .test, .economy =>
    if changed then s.enterRunning else s
  | .running, .auto | .running, .vent | .running, .economy | .standby, .off | .test, .off | .starting, _ => s

/-- A PANEL (R49, R99, R170): the arbiter first, then station control (R117; log 17). -/
def State.panel (mode : PanelMode) (setpoint : Word) (s : State) : State :=
  let old := s.peers.panel
  let s1 : State := { s with peers := s.peers.takePanel mode setpoint }
  let s2 := if mode = old.mode then s1 else s1.arbitrate (Arbiter.panelChange old.mode mode s1.isRunning)
  s2.followPanel (decide (mode ≠ old.mode)) (!fresh old.silence)

/-! ## REPORT -/

/-- A REPORT bearing the own number (R46). -/
def State.duplicateHeard (s : State) : State :=
  let s1 : State := { s with peers := { s.peers with duplicate := some (lostAge s.cfg) } }
  if s.peers.duplicate.isSome then s1 else s1.recompute

/-- A REPORT sorted by its source (R38, R39, R46). -/
def State.reportFrom (source : Nat) (r : ReportBody) (s : State) : State :=
  if source = s.own then s.duplicateHeard
  else if 1 ≤ source ∧ source ≤ s.cfg.zones then
    State.handEntry source
      { s with peers := { s.peers with table := writeEntry (entryOf source r) s.peers.table } }
  else s

/-! ## The meanings -/

/-- OVERLOAD_ARRIVAL (R92). -/
def execOverloadArrival (s : State) : Host.Outcome State Fault Refusal := .next (s.onMessage State.overload)

/-- POST_ARRIVAL (R100). -/
def execPostArrival (source : Nat) (condition : PostCondition) (action : PostAction) (target : Nat) (s : State) :
    Host.Outcome State Fault Refusal :=
  .next (s.onMessage (State.post source condition action target))

/-- BUDGET_ARRIVAL (R51). -/
def execBudgetArrival (units : Word) (s : State) : Host.Outcome State Fault Refusal :=
  .next (s.onMessage fun s => State.recompute { s with peers := s.peers.takeBudget units })

/-- PLANT_ARRIVAL (R53). -/
def execPlantArrival (capacity coolant : Word) (fault : Bool) (s : State) : Host.Outcome State Fault Refusal :=
  .next (s.onMessage fun s => State.recompute { s with peers := s.peers.takePlant capacity coolant fault })

/-- PANEL_ARRIVAL (R49). -/
def execPanelArrival (mode : PanelMode) (setpoint : Word) (s : State) : Host.Outcome State Fault Refusal :=
  .next (s.onMessage (State.panel mode setpoint))

/-- REPORT_ARRIVAL (R38, R39, R46). -/
def execReportArrival (source : Nat) (body : ReportBody) (s : State) : Host.Outcome State Fault Refusal :=
  .next (s.onMessage (State.reportFrom source body))

end Sys2Proof.Machine
end

