-- ==== Sys2Proof/Machine/Configuration.lean ====
section
/-! DEFINITION. The configuration record read, checked and brought within range (R157, R168, 10.2). -/

namespace Sys2Proof.Machine

/-- The byte of the record at an index, as a number. -/
def byteAt (r : List Byte) (i : Nat) : Nat := (r.getD i 0#8).toNat

/-- The signed byte of the record at an index. -/
def signedAt (r : List Byte) (i : Nat) : Int := (r.getD i 0#8).toInt

/-- The two-byte value of the record at an index. -/
def wordAt (r : List Byte) (i : Nat) : Nat := (wordOf (r.getD i 0#8) (r.getD (i + 1) 0#8)).toNat

/-- The fields as the record carries them (10.2). -/
def recordFields (r : List Byte) : Settings where
  zones := byteAt r 0
  period := wordAt r 1
  doorZone := byteAt r 3 ≠ 0
  followAdjacent := byteAt r 4 ≠ 0
  freshFitted := byteAt r 5 ≠ 0
  stages := byteAt r 6
  stagePower := byteAt r 7 * 100
  coolRating := byteAt r 8
  coolantShare := wordAt r 9
  offset := signedAt r 11
  kp := byteAt r 12
  ki := byteAt r 13
  deadBand := byteAt r 14
  fanMin := wordAt r 15
  fanHeatMin := wordAt r 17
  ventSpeed := wordAt r 19
  minFresh := wordAt r 21
  reserveEl := wordAt r 23
  reserveC := byteAt r 25
  blindBudget := wordAt r 26
  blindCooling := wordAt r 28
  supplyEntry := wordAt r 30
  supplyExit := wordAt r 32
  trimRet := signedAt r 34
  trimDischarge := signedAt r 35
  trimCoil := signedAt r 36
  trimFresh := signedAt r 37

/-- The nearest of the three report periods, the lower on a tie (R168). -/
def nearestPeriod (p : Nat) : Nat := if p ≤ 375 then 250 else if p ≤ 750 then 500 else 1000

/-- Each field brought within its range (R168). -/
def withinRange (c : Settings) : Settings :=
  { c with
    zones := clampNat 2 16 c.zones
    period := nearestPeriod c.period
    stages := min 3 c.stages
    stagePower := min 2000 c.stagePower
    coolRating := min 250 c.coolRating
    coolantShare := min 1000 c.coolantShare
    offset := clampInt (-32) 32 c.offset
    deadBand := min 16 c.deadBand
    fanMin := min 1000 c.fanMin
    fanHeatMin := min 1000 c.fanHeatMin
    ventSpeed := min 1000 c.ventSpeed
    minFresh := min 1000 c.minFresh
    reserveEl := min 6000 c.reserveEl
    reserveC := min 250 c.reserveC
    blindBudget := min 60000 c.blindBudget
    blindCooling := min 4000 c.blindCooling
    supplyEntry := clampNat 220 260 c.supplyEntry
    supplyExit := clampNat 225 300 c.supplyExit
    trimRet := clampInt (-32) 32 c.trimRet
    trimDischarge := clampInt (-32) 32 c.trimDischarge
    trimCoil := clampInt (-32) 32 c.trimCoil
    trimFresh := clampInt (-32) 32 c.trimFresh }

/-- Whether one of the yes-or-no bytes lies beyond its range (R168). -/
def oddSwitch (r : List Byte) : Bool := 1 < byteAt r 3 || 1 < byteAt r 4 || 1 < byteAt r 5

/-- The configuration values with their two flags. -/
structure Loaded where
  cfg        : Settings
  cfgDefault : Bool
  cfgClamped : Bool
  deriving DecidableEq, Repr

/-- A record whose check is good (R168). -/
def loadFields (r : List Byte) : Loaded :=
  { cfg := withinRange (recordFields r), cfgDefault := false,
    cfgClamped := withinRange (recordFields r) ≠ recordFields r || oddSwitch r }

/-- The defaults of a record whose check fails (R168); the yes-or-no settings are free values (log 9). -/
def loadDefaults : Loaded :=
  { cfg := Config.defaults Config.defaultDoorZone Config.defaultFollowAdjacent Config.defaultFreshFitted,
    cfgDefault := true, cfgClamped := false }

/-- A Z below the own number raised to it (R168). -/
def raiseZones (own : Nat) (l : Loaded) : Loaded :=
  if l.cfg.zones < own then { l with cfg := { l.cfg with zones := own }, cfgClamped := true } else l

/-- The adjustment of the supply exit (R157). -/
def adjustExit (l : Loaded) : Loaded :=
  if l.cfg.supplyExit < l.cfg.supplyEntry + 5 then
    { l with cfg := { l.cfg with supplyExit := l.cfg.supplyEntry + 10 }, cfgClamped := true }
  else l

/-- The configuration settled at the end of the read: 64 bytes with a good check, or the defaults (R167, R168). -/
def settleConfiguration (own : Nat) (bytes : List Byte) : Loaded :=
  adjustExit (raiseZones own
    (if 64 ≤ bytes.length && (checked (bytes.take 64)).isSome then loadFields bytes else loadDefaults))

end Sys2Proof.Machine
end

