-- ==== Sys2Proof/Machine/LifeCycle.lean ====
section
/-! DEFINITION. The meanings of the beginnings and the life cycle (chapter 9): COLD_START, LOGIC_SUPPLY_FALL,
RESET_PIN_LOW, PIN_RESET, CONFIGURATION_READ_END, LISTEN_TIMER_EXPIRY, RESTART_TAKES_EFFECT, TEST_TIMER_EXPIRY. -/

namespace Sys2Proof.Machine

/-- The own number of the strap levels, ST3 the highest bit (R180). -/
def ownNumber (straps : BitVec 4) : Nat := straps.toNat + 1

/-- Every block at its cold-start values (R17, R36, R57, R78, R95, R120, R148, R165, R178). -/
def State.coldValues (control : Control) (s : State) : State :=
  { s with
    control := control, sensing := .initial, link := .initial, peers := .initial, demand := .initial,
    share := .initial, arbiter := .initial, output := .initial, interlock := .initial control.cfg.stages }

/-- The interlock unit after a pin reset: TRIP state, cooldown and trip list kept (R154, R165). -/
def Interlock.pinReset (stages : Nat) (i : Interlock) : Interlock :=
  let kept := { Interlock.initial stages with trip := i.trip, cooldown := i.cooldown, tripList := i.tripList }
  { kept with ceiling := kept.effectiveCeiling }

/-- Every block at its values after a pin reset (R17, R36, R57, R78, R95, R120, R148, R165, R178). -/
def State.pinValues (control : Control) (s : State) : State :=
  { s.coldValues control with interlock := s.interlock.pinReset control.cfg.stages }

/-- Station control while nothing runs: as a beginning leaves it, with no read in progress (R167; log 23). -/
def Control.idle (c : Control) : Control := { Control.initial c.own c.cause with read := none }

/-- A cold start (R167, R180). With the RESET pin held, the read waits for its release, and the straps are read here and
at that release: DESIGN CHOICE (log 13). -/
def State.coldStart (straps : BitVec 4) (s : State) : State :=
  let control := Control.initial (ownNumber straps) .cold
  { s.coldValues (if s.pins.resetLow then { control with read := none } else control) with
    pins := { s.pins with powered := true, holdIsCold := s.pins.resetLow } }

/-- The fall of the logic supply: the station stops (R167; log 23). -/
def State.powerDown (s : State) : State :=
  { s.coldValues s.control.idle with pins := { s.pins with powered := false, holdIsCold := false } }

/-- The RESET pin going low under power (R167). -/
def State.holdReset (s : State) : State :=
  { s.pinValues s.control.idle with pins := { s.pins with resetLow := true } }

/-- The release of the RESET pin under power: a pin reset, or the end of the cold start it was held through (R167,
R171; log 13). The straps as they stand at the release give the own number: DESIGN CHOICE after a held power-up
(log 13). -/
def State.releaseReset (straps : BitVec 4) (s : State) : State :=
  if s.pins.resetLow && s.pins.holdIsCold then
    { s.coldValues (Control.initial (ownNumber straps) .cold) with
      pins := { s.pins with resetLow := false, holdIsCold := false } }
  else
    { s.pinValues (Control.initial (ownNumber straps) .pin) with
      pins := { s.pins with resetLow := false, holdIsCold := false } }

/-- The door input taken up at the end of the configuration read (R101). -/
def Arbiter.takeUpDoor (cfg : Settings) (doorOpen : Bool) (a : Arbiter) : Arbiter :=
  if cfg.doorZone && doorOpen then { a with dwell := some Config.doorDwell } else a

/-- The heat-limit contact taken up at the end of the configuration read (R150). -/
def Interlock.takeUpContact (contactOpen : Bool) (i : Interlock) : Interlock :=
  if contactOpen then i.contactOpens else i.contactCloses

/-- The end of the configuration read (R101, R124, R140, R143, R150, R167, R168). -/
def State.endRead (bytes : List Byte) (s : State) : State :=
  let l := settleConfiguration s.own bytes
  State.handCeiling
    { s with
      control := { s.control with
        cfg := l.cfg, cfgDefault := l.cfgDefault, cfgClamped := l.cfgClamped, phase := .listening,
        listen := some (2 * l.cfg.period), read := none }
      arbiter := s.arbiter.takeUpDoor l.cfg s.pins.doorOpen
      output := { s.output with
        upDelay := some (Config.stepUp s.own), fanTickIn := some Config.fanPeriod,
        damperTickIn := some Config.damperPeriod }
      interlock := { s.interlock with discharge := l.cfg.stages }.takeUpContact s.pins.contactOpen }

/-- A read that ends before its 64th byte ends when its time is up (R167; log 26). -/
def State.readTimeSpent (bytes : List Byte) (s : State) : State :=
  if bytes.length < 64 then s.elapse (s.control.read.getD 0) else s

/-- The end of the listen period (R34, R169). -/
def State.endListening (s : State) : State :=
  let s1 : State := { s with
    control := { s.control with listen := none }
    link := { s.link with firstIn := some (s.own * s.cfg.period / 16) } }
  if fresh s.peers.panel.silence && s.peers.panel.mode == .off then s1.enterStandby else s1.enterRunning

/-! ## The meanings -/

/-- COLD_START (R167). It is taken in every state: the rise of the supply implies its fall (log 13). -/
def execColdStart (straps : BitVec 4) (s : State) : Host.Outcome State Fault Refusal := .next (s.coldStart straps)

/-- LOGIC_SUPPLY_FALL (R167). -/
def execLogicSupplyFall (s : State) : Host.Outcome State Fault Refusal :=
  .next (if s.pins.powered then s.powerDown else s)

/-- RESET_PIN_LOW (R167). -/
def execResetPinLow (s : State) : Host.Outcome State Fault Refusal :=
  .next
    (if s.pins.resetLow then s
     else if s.pins.powered then s.holdReset
     else { s with pins := { s.pins with resetLow := true } })

/-- PIN_RESET (R167). A release implies that the pin was held (log 13). -/
def execPinReset (straps : BitVec 4) (s : State) : Host.Outcome State Fault Refusal :=
  .next
    (if s.pins.powered then s.releaseReset straps
     else { s with pins := { s.pins with resetLow := false } })

/-- CONFIGURATION_READ_END (R167, R168). -/
def execConfigurationReadEnd (bytes : List Byte) (s : State) : Host.Outcome State Fault Refusal :=
  .next (if s.awake && s.control.reading then (s.readTimeSpent bytes).endRead bytes else s)

/-- LISTEN_TIMER_EXPIRY (R169). -/
def execListenTimerExpiry (s : State) : Host.Outcome State Fault Refusal :=
  .next (s.onExpiry s.control.listen State.endListening)

/-- RESTART_TAKES_EFFECT (R176): where a restart is pending and its OK reply has left the REPLY slot. The events that
let go of the OK hold it within them (log 6). -/
def execRestartTakesEffect (s : State) : Host.Outcome State Fault Refusal := .next s.settleRestart

/-- TEST_TIMER_EXPIRY (R175). -/
def execTestTimerExpiry (s : State) : Host.Outcome State Fault Refusal :=
  .next (s.onExpiry s.control.test State.enterStandby)

end Sys2Proof.Machine
end

