-- ==== Sys2Proof/Machine/Modes.lean ====
section
/-! DEFINITION. The meanings of mode timers and doors (chapter 6): MODE_TIMER_EXPIRY, DOOR_INPUT_OPEN, DOOR_INPUT_CLOSE,
DOOR_DWELL_EXPIRY, DOOR_TAIL_EXPIRY. -/

namespace Sys2Proof.Machine

/-- The door input at its new level (R101). -/
def State.setDoor (isOpen : Bool) (s : State) : State := { s with pins := { s.pins with doorOpen := isOpen } }

/-- An opening in a door zone: the dwell starts from its full length (R101). -/
def State.doorOpens (s : State) : State :=
  if s.cfg.doorZone then { s with arbiter := { s.arbiter with dwell := some Config.doorDwell } } else s

/-- A closing in a door zone: the condition clears, the dwell stops, the cause is re-evaluated (R101, R102). -/
def State.doorCloses (s : State) : State :=
  if s.cfg.doorZone then State.judgeDoor { s with arbiter := { s.arbiter with ownDoor := false, dwell := none } }
  else s

/-- The end of the door dwell: the condition begins to hold if the door is still open (R101). -/
def State.endDwell (s : State) : State :=
  State.judgeDoor { s with arbiter := { s.arbiter with ownDoor := s.pins.doorOpen, dwell := none } }

/-- MODE_TIMER_EXPIRY (R114). -/
def execModeTimerExpiry (mode : TimedMode) (s : State) : Host.Outcome State Fault Refusal :=
  .next (s.onExpiry (s.arbiter.timer mode) (State.arbitrate (Arbiter.finish (timedMode mode))))

/-- DOOR_INPUT_OPEN (R101); an input that is open already does not open (log 19). -/
def execDoorInputOpen (s : State) : Host.Outcome State Fault Refusal :=
  .next (if s.pins.doorOpen then s else (s.setDoor true).whenActing State.doorOpens)

/-- DOOR_INPUT_CLOSE (R101); an input that is closed already does not close (log 19). -/
def execDoorInputClose (s : State) : Host.Outcome State Fault Refusal :=
  .next (if s.pins.doorOpen then (s.setDoor false).whenActing State.doorCloses else s)

/-- DOOR_DWELL_EXPIRY (R101). -/
def execDoorDwellExpiry (s : State) : Host.Outcome State Fault Refusal :=
  .next (s.onExpiry s.arbiter.dwell State.endDwell)

/-- DOOR_TAIL_EXPIRY (R103). -/
def execDoorTailExpiry (s : State) : Host.Outcome State Fault Refusal :=
  .next (s.onExpiry s.arbiter.tail (State.arbitrate fun a => { a with tail := none }.finish .door))

end Sys2Proof.Machine
end

