-- ==== Sys2Proof/Machine/Passes.lean ====
section
/-! DEFINITION. The meanings of CONTROL_PASS (chapter 4) and OVERLOAD_HOLD_EXPIRY (chapter 5). -/

namespace Sys2Proof.Machine

/-- What a control pass reads of the station (R60). -/
def State.passInputs (s : State) : PassInputs where
  cfg := s.cfg
  governing := s.arbiter.governing
  setpoint := s.peers.panel.setpoint
  outside := s.sensing.outside
  ownReturn := s.sensing.ret.usable
  neighbours := adjacentReturns s.own s.peers.table
  coolant := s.peers.coolant
  heatLimited := s.share.heatLimited
  coolLimited := s.share.coolLimited

/-- The valves at a control pass: the coolant valve set in RUNNING (R142), the evaporator valve moved (R141). -/
def Output.passValves (running : Bool) (state : FrostState) (o : Output) : Output :=
  (if running then o.setCoolant else o).moveEvaporator state

/-- A control pass (R61): the new record, the allowance it brings, then the valves. -/
def State.pass (s : State) : State :=
  let s1 := State.recompute
    { s with demand := { passTimer := some Config.passPeriod, record := controlPass s.passInputs s.demand.record } }
  { s1 with output := s1.output.passValves s1.isRunning s1.interlock.frost }

/-- The end of the overload hold (R94): a stage may go back on within it (R132), also where an OVERLOAD falls together with
it (log 35). A cap that is not in force is held as 0: DESIGN CHOICE (log 28). -/
def State.endHold (s : State) : State := State.recompute { s with share := { s.share with hold := none, cap := 0 } }

/-- CONTROL_PASS (R59, R61). -/
def execControlPass (s : State) : Host.Outcome State Fault Refusal := .next (s.onExpiry s.demand.passTimer State.pass)

/-- OVERLOAD_HOLD_EXPIRY (R94). -/
def execOverloadHoldExpiry (s : State) : Host.Outcome State Fault Refusal :=
  .next (s.onExpiry s.share.hold State.endHold)

end Sys2Proof.Machine
end

