-- ==== Sys2Proof/Machine/Protection.lean ====
section
/-! DEFINITION. The meanings of the interlock unit's events (chapter 8): HEAT_LIMIT_OPEN, HEAT_LIMIT_CLOSE,
OPEN_DWELL_EXPIRY, COOLDOWN_EXPIRY, TRIP_ENTRY_AGE_OUT, COLD_DWELL_EXPIRY, WARM_DWELL_EXPIRY, LOW_DWELL_EXPIRY,
RECOVERY_DWELL_EXPIRY, DROP_TIMER_EXPIRY, RISE_TIMER_EXPIRY. -/

namespace Sys2Proof.Machine

/-- The heat-limit contact at its new level (R150). -/
def State.setContact (isOpen : Bool) (s : State) : State := { s with pins := { s.pins with contactOpen := isOpen } }

/-- Time until the oldest trip leaves the trip list (R152). -/
def Interlock.ageOutIn (i : Interlock) : Timer :=
  match i.tripList with
  | [] => none
  | age :: _ => some (Config.tripMemory - age)

/-- HEAT_LIMIT_OPEN (R150); a contact that is open already does not open (log 19). -/
def execHeatLimitOpen (s : State) : Host.Outcome State Fault Refusal :=
  .next (if s.pins.contactOpen then s else (s.setContact true).whenActing (State.protect Interlock.contactOpens))

/-- HEAT_LIMIT_CLOSE (R150, R151); a contact that is closed already does not close (log 19). -/
def execHeatLimitClose (s : State) : Host.Outcome State Fault Refusal :=
  .next (if s.pins.contactOpen then (s.setContact false).whenActing (State.protect Interlock.contactCloses) else s)

/-- OPEN_DWELL_EXPIRY (R151, R152). -/
def execOpenDwellExpiry (s : State) : Host.Outcome State Fault Refusal :=
  .next (s.onExpiry s.interlock.openDwell (State.protect Interlock.trips))

/-- COOLDOWN_EXPIRY (R151, R154). -/
def execCooldownExpiry (s : State) : Host.Outcome State Fault Refusal :=
  .next (s.onExpiry s.interlock.cooldown (State.protect Interlock.cooldownEnds))

/-- TRIP_ENTRY_AGE_OUT (R152). -/
def execTripEntryAgeOut (s : State) : Host.Outcome State Fault Refusal :=
  .next (s.onExpiry s.interlock.ageOutIn (State.protect fun i => { i with tripList := i.tripList.tail }))

/-- COLD_DWELL_EXPIRY (R155, R156). -/
def execColdDwellExpiry (s : State) : Host.Outcome State Fault Refusal :=
  .next (s.onExpiry s.interlock.coldDwell fun s => State.handFrost { s with interlock := s.interlock.frosts })

/-- WARM_DWELL_EXPIRY (R155, R156). -/
def execWarmDwellExpiry (s : State) : Host.Outcome State Fault Refusal :=
  .next (s.onExpiry s.interlock.warmDwell fun s => State.handFrost { s with interlock := s.interlock.clears })

/-- LOW_DWELL_EXPIRY (R158). -/
def execLowDwellExpiry (s : State) : Host.Outcome State Fault Refusal :=
  .next (s.onExpiry s.interlock.lowDwell (State.protect fun i => { i with supply := .low, lowDwell := none }))

/-- RECOVERY_DWELL_EXPIRY (R158). -/
def execRecoveryDwellExpiry (s : State) : Host.Outcome State Fault Refusal :=
  .next (s.onExpiry s.interlock.recovery (State.protect fun i => { i with supply := .normal, recovery := none }))

/-- DROP_TIMER_EXPIRY (R159). -/
def execDropTimerExpiry (s : State) : Host.Outcome State Fault Refusal :=
  .next (s.onExpiry s.interlock.drop (State.protect Interlock.drops))

/-- RISE_TIMER_EXPIRY (R160). -/
def execRiseTimerExpiry (s : State) : Host.Outcome State Fault Refusal :=
  .next (s.onExpiry s.interlock.rise (State.protect (Interlock.rises s.cfg.stages)))

end Sys2Proof.Machine
end

