-- ==== Sys2Proof/Machine/Samples.lean ====
section
/-! DEFINITION. The meanings of the sample events (chapter 1): TEMPERATURE_SAMPLE, SUPPLY_SAMPLE. -/

namespace Sys2Proof.Machine

/-- Whether a channel is processed: FRESH only where it is fitted (R11). -/
def processed (cfg : Settings) : Channel → Bool
  | .fresh => cfg.freshFitted
  | .ret | .discharge | .coil => true

/-- The sample of a channel taken by the sensing unit (R4, R7, R8, R11). -/
def State.takeSample (channel : Channel) (code : Nat) (s : State) : State :=
  if processed s.cfg channel then
    let taken := sampleChannel (trimOf s.cfg channel) code (s.sensing.channel channel)
    { s with sensing := s.sensing.setChannel channel taken }
  else s

/-- The FROST machine at a COIL sample, its change handed on (R155, R156). -/
def State.judgeFrost (s : State) : State :=
  let s1 : State := { s with interlock := s.interlock.judgeCoil s.sensing.coil }
  if s1.interlock.frost = s.interlock.frost then s1 else s1.handFrost

/-- What a sample event prompts beyond its channel (R13, R155, R159). -/
def State.afterSample (channel : Channel) (s : State) : State :=
  match channel with
  | .ret => s
  | .discharge => s.protect (Interlock.judgeDischarge s.cfg.stages s.sensing.discharge)
  | .coil => s.judgeFrost
  | .fresh => s.selectAgain

/-- TEMPERATURE_SAMPLE (R2 to R8, R11). -/
def execTemperatureSample (channel : Channel) (code : Fin 1024) (s : State) : Host.Outcome State Fault Refusal :=
  .next (s.whenActing fun s => (s.takeSample channel code.val).afterSample channel)

/-- SUPPLY_SAMPLE (R12, R158). -/
def execSupplySample (code : Fin 1024) (s : State) : Host.Outcome State Fault Refusal :=
  .next (s.whenActing fun s =>
    { s with
      sensing := { s.sensing with supply := some (supplyValue code.val) }
      interlock := s.interlock.judgeSupply s.cfg (supplyValue code.val) })

end Sys2Proof.Machine
end

