-- ==== Sys2Proof/Machine/Service.lean ====
section
/-! DEFINITION. The meanings of the service requests (9.5): READ_STATUS, READ_PEER, READ_CONFIG, TEST_OUTPUT, END_TEST,
RESTART, CLEAR_LOCK. -/

namespace Sys2Proof.Machine

/-- READ_PEER answered from the table (R45, R173). -/
def State.answerPeer (argument : Nat) (s : State) : State :=
  match entryFor argument s.peers.table with
  | some e => s.reply .readPeer .ok (peerPayload e)
  | none => s.reply .readPeer .notPresent absentPayload

/-- Whether an output is one a station of `stages` stages has (R174). -/
def TestOutput.fitted (stages : Nat) : TestOutput → Bool
  | .fan | .evap | .coolant | .damper => true
  | .stage k => k ≤ stages

/-- TEST_OUTPUT of an output the station has (R174). -/
def State.testFitted (output : TestOutput) (value : Nat) (s : State) : State :=
  match s.control.state with
  | .standby => (s.enterTest.makeSetting output value).reply .testOutput .ok []
  | .test =>
    (State.makeSetting output value { s with control := { s.control with test := some Config.testTime } }).reply
      .testOutput .ok []
  | .starting | .running => s.reply .testOutput .refused []

/-- TEST_OUTPUT (R172, R174). -/
def State.testRequest (argument : Nat) (value : Nat) (s : State) : State :=
  match testOutputOf argument with
  | some output =>
    if output.fitted s.cfg.stages then s.testFitted output value else s.reply .testOutput .refused []
  | none => s.reply .testOutput .refused []

/-- END_TEST (R175). -/
def State.endTestRequest (s : State) : State :=
  match s.control.state with
  | .test => s.enterStandby.reply .endTest .ok []
  | .starting | .running | .standby => s.reply .endTest .refused []

/-- RESTART (R176). -/
def State.restartRequest (s : State) : State :=
  match s.control.state with
  | .running | .standby | .test =>
    State.reply .restart .ok [] { s with control := { s.control with restartPending := true } }
  | .starting => s.reply .restart .refused []

/-- CLEAR_LOCK (R153, R177). -/
def State.clearLockRequest (s : State) : State :=
  match s.interlock.trip with
  | .locked => (s.protect (Interlock.clearLock s.pins.contactOpen)).reply .clearLock .ok []
  | .normal | .tripped | .cooldown => s.reply .clearLock .refused []

/-! ## The meanings -/

/-- READ_STATUS (R173). -/
def execReadStatus (target : Fin 32) (s : State) : Host.Outcome State Fault Refusal :=
  .next (s.onRequest .readStatus target fun s => s.reply .readStatus .ok (statusPayload s))

/-- READ_PEER (R45, R173). -/
def execReadPeer (target : Fin 32) (argument : Byte) (s : State) : Host.Outcome State Fault Refusal :=
  .next (s.onRequest .readPeer target (State.answerPeer argument.toNat))

/-- READ_CONFIG (R173). -/
def execReadConfig (target : Fin 32) (s : State) : Host.Outcome State Fault Refusal :=
  .next (s.onRequest .readConfig target fun s => s.reply .readConfig .ok (configPayload s.control))

/-- TEST_OUTPUT (R172, R174). -/
def execTestOutput (target : Fin 32) (argument : Byte) (value : Word) (s : State) :
    Host.Outcome State Fault Refusal :=
  .next (s.onRequest .testOutput target (State.testRequest argument.toNat (settingOf value)))

/-- END_TEST (R175). -/
def execEndTest (target : Fin 32) (s : State) : Host.Outcome State Fault Refusal :=
  .next (s.onRequest .endTest target State.endTestRequest)

/-- RESTART (R176). -/
def execRestart (target : Fin 32) (s : State) : Host.Outcome State Fault Refusal :=
  .next (s.onRequest .restart target State.restartRequest)

/-- CLEAR_LOCK (R153, R177). -/
def execClearLock (target : Fin 32) (s : State) : Host.Outcome State Fault Refusal :=
  .next (s.onRequest .clearLock target State.clearLockRequest)

end Sys2Proof.Machine
end

