-- ==== Sys2Proof/Machine/Silence.lean ====
section
/-! DEFINITION. The meanings of ageing and silence (chapter 3): ENTRY_STALE, ENTRY_LOST, DUPLICATE_TIMER_EXPIRY,
PANEL_TIMEOUT, BUDGET_TIMEOUT, PLANT_TIMEOUT. -/

namespace Sys2Proof.Machine

/-- Time until a number's entry becomes STALE, where it is LIVE (R40). -/
def State.staleIn (number : Nat) (s : State) : Timer :=
  match entryFor number s.peers.table with
  | some e =>
    match e.state with
    | .live => some (staleAge s.cfg - e.age)
    | .stale | .lost => none
  | none => none

/-- Time until a number's entry becomes LOST, where it is not (R40). -/
def State.lostIn (number : Nat) (s : State) : Timer :=
  match entryFor number s.peers.table with
  | some e =>
    match e.state with
    | .live | .stale => some (lostAge s.cfg - e.age)
    | .lost => none
  | none => none

/-- An entry's change of state, handed on (R40, R41). -/
def State.stand (number : Nat) (state : EntryState) (s : State) : State :=
  State.handEntry number { s with peers := { s.peers with table := setStanding number state s.peers.table } }

/-- ENTRY_STALE (R40). -/
def execEntryStale (number : Nat) (s : State) : Host.Outcome State Fault Refusal :=
  .next (s.onExpiry (s.staleIn number) (State.stand number .stale))

/-- ENTRY_LOST (R40). -/
def execEntryLost (number : Nat) (s : State) : Host.Outcome State Fault Refusal :=
  .next (s.onExpiry (s.lostIn number) (State.stand number .lost))

/-- DUPLICATE_TIMER_EXPIRY (R47). -/
def execDuplicateTimerExpiry (s : State) : Host.Outcome State Fault Refusal :=
  .next (s.onExpiry s.peers.duplicate fun s =>
    State.recompute { s with peers := { s.peers with duplicate := none } })

/-- PANEL_TIMEOUT (R50). -/
def execPanelTimeout (s : State) : Host.Outcome State Fault Refusal :=
  .next (s.onExpiry s.peers.panel.silence fun s =>
    { s with peers := { s.peers with panel := { s.peers.panel with silence := none } } })

/-- BUDGET_TIMEOUT (R52). -/
def execBudgetTimeout (s : State) : Host.Outcome State Fault Refusal :=
  .next (s.onExpiry s.peers.budget.silence fun s =>
    State.recompute { s with peers := { s.peers with budget := { s.peers.budget with silence := none } } })

/-- PLANT_TIMEOUT (R54, R55). -/
def execPlantTimeout (s : State) : Host.Outcome State Fault Refusal :=
  .next (s.onExpiry s.peers.plant.silence fun s =>
    State.recompute
      { s with peers := { s.peers with plant := { s.peers.plant with silence := none }, coolant := .cold } })

end Sys2Proof.Machine
end

