-- ==== Sys2Proof/Machine/Stages.lean ====
section
/-! DEFINITION. The meanings of the output stage's own events (chapter 7): STEP_UP_DELAY_EXPIRY,
STEP_DOWN_DELAY_EXPIRY, FAN_PROVEN, FAN_TICK, DAMPER_TICK, AFTER_RUN_EXPIRY. -/

namespace Sys2Proof.Machine

/-- A change of the output stage alone. -/
def State.drive (f : Output → Output) (s : State) : State := { s with output := f s.output }

/-- STEP_UP_DELAY_EXPIRY (R128). -/
def execStepUpDelayExpiry (s : State) : Host.Outcome State Fault Refusal :=
  .next (s.onExpiry s.output.upDelay fun s => s.drive fun o => { o with upDelay := none }.settle s.own)

/-- STEP_DOWN_DELAY_EXPIRY (R128). -/
def execStepDownDelayExpiry (s : State) : Host.Outcome State Fault Refusal :=
  .next (s.onExpiry s.output.downDelay fun s => s.drive fun o => { o with downDelay := none }.settle s.own)

/-- FAN_PROVEN (R125, R128). -/
def execFanProven (s : State) : Host.Outcome State Fault Refusal :=
  .next (s.onExpiry s.output.proof.left fun s => s.drive fun o => { o with proof := .proven }.settle s.own)

/-- FAN_TICK (R125, R140). -/
def execFanTick (s : State) : Host.Outcome State Fault Refusal :=
  .next (s.onExpiry s.output.fanTickIn fun s => s.drive (Output.tickFan s.cfg s.effectiveFan))

/-- DAMPER_TICK (R143). -/
def execDamperTick (s : State) : Host.Outcome State Fault Refusal :=
  .next (s.onExpiry s.output.damperTickIn (State.drive Output.tickDamper))

/-- AFTER_RUN_EXPIRY (R138). -/
def execAfterRunExpiry (s : State) : Host.Outcome State Fault Refusal :=
  .next (s.onExpiry s.output.afterRun (State.drive fun o => { o with afterRun := none }))

end Sys2Proof.Machine
end

