-- ==== Sys2Proof/Machine/Transmission.lean ====
section
/-! DEFINITION. The meanings of the line and of report timing (chapter 2): LINE_IDLE, ATTEMPT_BEGIN, ATTEMPT_COMPLETE,
CONTENTION_LOSS, ATTEMPT_ERROR, REPORT_DUE, EARLY_REPORT_DUE, FIRST_REPORT_DUE, RECEPTION_DROP. -/

namespace Sys2Proof.Machine

/-- A change of the link controller while the station is awake (R167). -/
def State.onLine (f : Link → Link) (s : State) : State :=
  if s.awake then State.watch { s with link := f s.link } s else s

/-- The REPORT slot filled, in a station state that reports (R31). -/
def State.fillReport (s : State) : State :=
  if s.reports then { s with link := s.link.fill s.report } else s

/-- The end of an attempt while the station is awake, and the restart where it lets go of the OK reply (R176). -/
def State.endAttempt (f : Link → Link) (s : State) : State := if s.awake then (s.onLine f).settleRestart else s

/-- LINE_IDLE (R19): 12 bit times of 1 have been read. -/
def execLineIdle (s : State) : Host.Outcome State Fault Refusal := .next (s.onLine Link.idled)

/-- ATTEMPT_BEGIN (R20, R29, R31). -/
def execAttemptBegin (s : State) : Host.Outcome State Fault Refusal :=
  .next (s.onLine (Link.begin s.reports))

/-- ATTEMPT_COMPLETE (R23). -/
def execAttemptComplete (s : State) : Host.Outcome State Fault Refusal :=
  .next (s.endAttempt (Link.complete s.cfg))

/-- CONTENTION_LOSS (R21, R24). -/
def execContentionLoss (s : State) : Host.Outcome State Fault Refusal := .next (s.endAttempt Link.fail)

/-- ATTEMPT_ERROR (R22, R24). -/
def execAttemptError (s : State) : Host.Outcome State Fault Refusal := .next (s.endAttempt Link.fail)

/-- REPORT_DUE (R31, R35). -/
def execReportDue (s : State) : Host.Outcome State Fault Refusal :=
  .next (s.onExpiry (s.link.periodicIn s.cfg s.control.state) State.fillReport)

/-- EARLY_REPORT_DUE (R33). -/
def execEarlyReportDue (s : State) : Host.Outcome State Fault Refusal :=
  .next (s.onExpiry s.link.earlyIn State.fillReport)

/-- FIRST_REPORT_DUE (R34). -/
def execFirstReportDue (s : State) : Host.Outcome State Fault Refusal :=
  .next (s.onExpiry s.link.firstIn State.fillReport)

/-- RECEPTION_DROP (R25, R26): no effect on any block and no record; the line was in use. -/
def execReceptionDrop (_bytes : List Byte) (s : State) : Host.Outcome State Fault Refusal :=
  .next (if s.attentive then s.hears else s)

end Sys2Proof.Machine
end

