-- ==== Sys2Proof/Machine/Dispatch.lean ====
section
/-! DEFINITION. The effect of each command on the station: one arm for each row of opcode_table.json, one meaning each. -/

namespace Sys2Proof.Machine

def exec (i : Instr) (s : State) : Host.Outcome State Fault Refusal :=
  match i with
  | .coldStart straps => Sys2Proof.Machine.execColdStart straps s
  | .resetPinLow => Sys2Proof.Machine.execResetPinLow s
  | .pinReset straps => Sys2Proof.Machine.execPinReset straps s
  | .configurationReadEnd bytes => Sys2Proof.Machine.execConfigurationReadEnd bytes s
  | .listenTimerExpiry => Sys2Proof.Machine.execListenTimerExpiry s
  | .restartTakesEffect => Sys2Proof.Machine.execRestartTakesEffect s
  | .temperatureSample channel code => Sys2Proof.Machine.execTemperatureSample channel code s
  | .supplySample code => Sys2Proof.Machine.execSupplySample code s
  | .attemptBegin => Sys2Proof.Machine.execAttemptBegin s
  | .attemptComplete => Sys2Proof.Machine.execAttemptComplete s
  | .contentionLoss => Sys2Proof.Machine.execContentionLoss s
  | .attemptError => Sys2Proof.Machine.execAttemptError s
  | .reportDue => Sys2Proof.Machine.execReportDue s
  | .earlyReportDue => Sys2Proof.Machine.execEarlyReportDue s
  | .firstReportDue => Sys2Proof.Machine.execFirstReportDue s
  | .receptionDrop bytes => Sys2Proof.Machine.execReceptionDrop bytes s
  | .overloadArrival => Sys2Proof.Machine.execOverloadArrival s
  | .postArrival source condition action target => Sys2Proof.Machine.execPostArrival source condition action target s
  | .budgetArrival units => Sys2Proof.Machine.execBudgetArrival units s
  | .plantArrival capacity coolant fault => Sys2Proof.Machine.execPlantArrival capacity coolant fault s
  | .panelArrival mode setpoint => Sys2Proof.Machine.execPanelArrival mode setpoint s
  | .reportArrival source body => Sys2Proof.Machine.execReportArrival source body s
  | .readStatus target => Sys2Proof.Machine.execReadStatus target s
  | .readPeer target argument => Sys2Proof.Machine.execReadPeer target argument s
  | .readConfig target => Sys2Proof.Machine.execReadConfig target s
  | .testOutput target argument value => Sys2Proof.Machine.execTestOutput target argument value s
  | .endTest target => Sys2Proof.Machine.execEndTest target s
  | .restart target => Sys2Proof.Machine.execRestart target s
  | .clearLock target => Sys2Proof.Machine.execClearLock target s
  | .entryStale number => Sys2Proof.Machine.execEntryStale number s
  | .entryLost number => Sys2Proof.Machine.execEntryLost number s
  | .duplicateTimerExpiry => Sys2Proof.Machine.execDuplicateTimerExpiry s
  | .panelTimeout => Sys2Proof.Machine.execPanelTimeout s
  | .budgetTimeout => Sys2Proof.Machine.execBudgetTimeout s
  | .plantTimeout => Sys2Proof.Machine.execPlantTimeout s
  | .controlPass => Sys2Proof.Machine.execControlPass s
  | .overloadHoldExpiry => Sys2Proof.Machine.execOverloadHoldExpiry s
  | .modeTimerExpiry mode => Sys2Proof.Machine.execModeTimerExpiry mode s
  | .doorInputOpen => Sys2Proof.Machine.execDoorInputOpen s
  | .doorInputClose => Sys2Proof.Machine.execDoorInputClose s
  | .doorDwellExpiry => Sys2Proof.Machine.execDoorDwellExpiry s
  | .doorTailExpiry => Sys2Proof.Machine.execDoorTailExpiry s
  | .stepUpDelayExpiry => Sys2Proof.Machine.execStepUpDelayExpiry s
  | .stepDownDelayExpiry => Sys2Proof.Machine.execStepDownDelayExpiry s
  | .fanProven => Sys2Proof.Machine.execFanProven s
  | .fanTick => Sys2Proof.Machine.execFanTick s
  | .damperTick => Sys2Proof.Machine.execDamperTick s
  | .afterRunExpiry => Sys2Proof.Machine.execAfterRunExpiry s
  | .heatLimitOpen => Sys2Proof.Machine.execHeatLimitOpen s
  | .heatLimitClose => Sys2Proof.Machine.execHeatLimitClose s
  | .openDwellExpiry => Sys2Proof.Machine.execOpenDwellExpiry s
  | .cooldownExpiry => Sys2Proof.Machine.execCooldownExpiry s
  | .tripEntryAgeOut => Sys2Proof.Machine.execTripEntryAgeOut s
  | .coldDwellExpiry => Sys2Proof.Machine.execColdDwellExpiry s
  | .warmDwellExpiry => Sys2Proof.Machine.execWarmDwellExpiry s
  | .lowDwellExpiry => Sys2Proof.Machine.execLowDwellExpiry s
  | .recoveryDwellExpiry => Sys2Proof.Machine.execRecoveryDwellExpiry s
  | .dropTimerExpiry => Sys2Proof.Machine.execDropTimerExpiry s
  | .riseTimerExpiry => Sys2Proof.Machine.execRiseTimerExpiry s
  | .testTimerExpiry => Sys2Proof.Machine.execTestTimerExpiry s
  | .lineIdle => Sys2Proof.Machine.execLineIdle s
  | .logicSupplyFall => Sys2Proof.Machine.execLogicSupplyFall s

end Sys2Proof.Machine
end

