-- ==== Sys2Proof/Machine/LineIn.lean ====
section
/-! DEFINITION. The line as the station reads it, level by level (chapter 2): characters and messages as bits (R19), the
run of 1s that makes the line idle, the read-back of an attempt (R21 to R23) and reception (R25). What a level brings to
its end becomes a command on the queue. -/

namespace Sys2Proof.Machine

/-! ## Characters -/

/-- A byte as a character of ten bit times: a start bit of 0, the bits most significant first, a stop bit of 1 (R19). -/
def characterBits (b : Byte) : List Bool := false :: byteBits b ++ [true]

/-- A message as a run of characters (R19). -/
def messageBits (bytes : List Byte) : List Bool := bytes.flatMap characterBits

/-- The bytes of the whole characters among the bits (R25). -/
def characterBytes : List Bool → List Byte
  | _ :: b7 :: b6 :: b5 :: b4 :: b3 :: b2 :: b1 :: b0 :: _ :: rest =>
    BitVec.ofBoolListLE [b0, b1, b2, b3, b4, b5, b6, b7] :: characterBytes rest
  | _ => []

/-! ## The station's own attempt -/

/-- The first bit that reads back other than it was sent: its place and the bit sent. -/
def firstMismatch (place : Nat) : List Bool → List Bool → Option (Nat × Bool)
  | sent :: restSent, read :: restRead =>
    if sent = read then firstMismatch (place + 1) restSent restRead else some (place, sent)
  | _, _ => none

/-- The end of an attempt whose bits were sent and read back so, if they end it (R21, R22, R23): a 1 of the key, places
1 to 8, that reads 0 loses contention; any other mismatch is an attempt error; the last bit read as sent completes. -/
def attemptEnd (sent read : List Bool) : Option Instr :=
  match firstMismatch 0 sent read with
  | some (place, bit) => some (if 1 ≤ place ∧ place ≤ 8 ∧ bit = true then .contentionLoss else .attemptError)
  | none => if sent.length ≤ read.length then some .attemptComplete else none

/-! ## One level -/

/-- Bit times of 1 that make the line idle (R19). -/
def idleBits : Nat := 12

/-- The run of 1s with one level more (R19). -/
def Link.count (level : Bool) (l : Link) : Link :=
  { l with ones := if level then min idleBits (l.ones + 1) else 0 }

/-- LINE_IDLE, where a level is the twelfth bit time of 1 (R19). -/
def Link.idleEvent (level : Bool) (l : Link) : List Instr :=
  if level ∧ l.ones + 1 = idleBits then [.lineIdle] else []

/-- The end of a message that a level makes, if it does: RECEPTION_DROP at a stop bit that reads 0, and at a 1 where the
next character would start, which shows that the message is over (R19), its arrival if its characters are a whole message
with a good check, neither shorter nor longer, and RECEPTION_DROP if not (R25). That these are the moments is a DESIGN
CHOICE (log 34). -/
def messageEnd (bits : List Bool) (level : Bool) : Option Instr :=
  let bytes := characterBytes (bits ++ [level])
  match bits.length % 10, level with
  | 0, true => some ((decodeMessage bytes).getD (.receptionDrop bytes))
  | 9, false => some (.receptionDrop bytes)
  | _, _ => none

/-- A level read while an attempt is in progress (R21 to R23). One that ends the attempt early is read as a level of the
message on the line too (R21, R22). A start bit that reads 1 leaves nothing on the line, which is idle as it was. -/
def Link.readBack (own : Nat) (a : Attempt) (level : Bool) (l : Link) : Link × List Instr :=
  let bits := l.incoming.getD []
  let read := bits ++ [level]
  match bits, level, attemptEnd (messageBits (a.content.message own)) read with
  | [], true, event =>
    ({ l.count level with incoming := some [] },
      event.toList ++ if (l.count level).ones = idleBits then [.lineIdle] else [])
  | _, _, some .attemptComplete => ({ l.count level with incoming := some read }, [.attemptComplete])
  | _, _, some event => ({ l.count level with incoming := some read }, event :: (messageEnd bits level).toList)
  | _, _, none => ({ l.count level with incoming := some read }, [])

/-- A level read with no message on the line: a 0 on an idle line is the start bit of one (R19). -/
def Link.awaitStart (level : Bool) (l : Link) : Link × List Instr :=
  match l.line, level with
  | .idle, false => ({ l.count level with line := .busy, incoming := some [level] }, [])
  | _, _ => (l.count level, l.idleEvent level)

/-- A level read within a message of another station (R25): the last of the message, or one that cuts it short because
the line becomes idle, or its next bit. -/
def Link.receiveLevel (bits : List Bool) (level : Bool) (l : Link) : Link × List Instr :=
  match messageEnd bits level, l.idleEvent level with
  | some event, idle => ({ l.count level with incoming := none }, event :: idle)
  | none, idle :: _ => ({ l.count level with incoming := none }, [.receptionDrop (characterBytes (bits ++ [level])), idle])
  | none, [] => ({ l.count level with incoming := some (bits ++ [level]) }, [])

/-- A level read from the line, with the commands it brings (R19, R21 to R23, R25). -/
def Link.readLevel (own : Nat) (level : Bool) (l : Link) : Link × List Instr :=
  match l.attempt, l.incoming with
  | some a, _ => l.readBack own a level
  | none, none => l.awaitStart level
  | none, some [] => Link.awaitStart level { l with incoming := none }
  | none, some bits => l.receiveLevel bits level

/-! ## The station -/

/-- One bit time passes, 16 microseconds (R19). -/
def State.bitTime (s : State) : State :=
  if s.micros + 16 < 1000 then { s with micros := s.micros + 16 }
  else { s.elapse 1 with micros := s.micros + 16 - 1000 }

/-- The station reads a level; without supply or in reset it reads nothing (R19, R167). -/
def State.readLevel (level : Bool) (s : State) : State :=
  let u := s.bitTime
  if u.awake then
    let read := u.link.readLevel u.own level
    { u with link := read.1, pending := u.pending ++ read.2 }
  else u

/-- The line carries these levels next. -/
def State.hear (levels : List Bool) (s : State) : State := { s with wire := s.wire ++ levels }

/-- The line carries a message next: the bits of its characters, and the 1 of a line that nobody drives after them
(R19). -/
def State.hearMessage (bytes : List Byte) (s : State) : State := s.hear (messageBits bytes ++ [true])

end Sys2Proof.Machine
end

