-- ==== Sys2Proof/Machine/Schedule.lean ====
section
/-! DEFINITION. What the station does of its own accord: the events that have come due, which of them is taken first, and,
where none has, the next level of the line or the passing of a millisecond (log 1, 3, 5, 33). -/

namespace Sys2Proof.Machine

/-- The event of a timer that has no time left. -/
def whenDue (t : Timer) (event : Instr) : List Instr :=
  match t with
  | some 0 => [event]
  | some (_ + 1) | none => []

/-- An event that is due while a condition holds. -/
def whenHolds (b : Bool) (event : Instr) : List Instr := if b then [event] else []

/-- The due events of one peer entry (R40). -/
def entryDue (cfg : Settings) (e : Entry) : List Instr :=
  match e.state with
  | .live => whenHolds (staleAge cfg ≤ e.age) (.entryStale e.number)
  | .stale => whenHolds (lostAge cfg ≤ e.age) (.entryLost e.number)
  | .lost => []

/-- The due events of the link controller (R20, R31, R33, R34). -/
def State.linkDue (s : State) : List Instr :=
  whenHolds (s.awake && (s.link.ready s.reports).isSome) .attemptBegin
    ++ whenDue s.link.firstIn .firstReportDue
    ++ whenDue s.link.earlyIn .earlyReportDue
    ++ (if s.reports && s.link.reportSlot.isNone then whenDue (s.link.periodicIn s.cfg s.control.state) .reportDue
        else [])

/-- The events of the station that have come due. A restart that stands due goes before all others (R176; log 6). -/
def State.due (s : State) : List Instr :=
  if s.restartDue then [.restartTakesEffect]
  else
    whenDue s.control.read (.configurationReadEnd [])
      ++ whenDue s.control.listen .listenTimerExpiry
      ++ whenDue s.control.test .testTimerExpiry
      ++ s.linkDue
      ++ s.peers.table.flatMap (entryDue s.cfg)
      ++ whenDue s.peers.duplicate .duplicateTimerExpiry
      ++ whenDue s.peers.panel.silence .panelTimeout
      ++ whenDue s.peers.budget.silence .budgetTimeout
      ++ whenDue s.peers.plant.silence .plantTimeout
      ++ whenDue s.demand.passTimer .controlPass
      ++ whenDue s.share.hold .overloadHoldExpiry
      ++ whenDue s.arbiter.precondTimer (.modeTimerExpiry .precond)
      ++ whenDue s.arbiter.boostTimer (.modeTimerExpiry .boost)
      ++ whenDue s.arbiter.purgeTimer (.modeTimerExpiry .purge)
      ++ whenDue s.arbiter.dwell .doorDwellExpiry
      ++ whenDue s.arbiter.tail .doorTailExpiry
      ++ whenDue s.output.upDelay .stepUpDelayExpiry
      ++ whenDue s.output.downDelay .stepDownDelayExpiry
      ++ whenDue s.output.proof.left .fanProven
      ++ whenDue s.output.afterRun .afterRunExpiry
      ++ whenDue s.output.fanTickIn .fanTick
      ++ whenDue s.output.damperTickIn .damperTick
      ++ whenDue s.interlock.openDwell .openDwellExpiry
      ++ whenDue s.interlock.cooldown .cooldownExpiry
      ++ whenDue s.interlock.ageOutIn .tripEntryAgeOut
      ++ whenDue s.interlock.coldDwell .coldDwellExpiry
      ++ whenDue s.interlock.warmDwell .warmDwellExpiry
      ++ whenDue s.interlock.lowDwell .lowDwellExpiry
      ++ whenDue s.interlock.recovery .recoveryDwellExpiry
      ++ whenDue s.interlock.drop .dropTimerExpiry
      ++ whenDue s.interlock.rise .riseTimerExpiry

/-- Whether the first report after a beginning falls due now, or its attempt can begin now (R20, R34). -/
def State.firstReportGoes (s : State) : Bool :=
  s.link.firstIn == some 0
    || (match s.link.ready s.reports, s.link.sinceReport, s.link.sinceDiscard with
        | some (.report _), none, none => s.awake
        | _, _, _ => false)

/-- The due events of which one is taken next: a control pass lets the first report after a beginning go before it, which
so carries demands of 0 (R78; log 37). -/
def State.next (s : State) : List Instr :=
  if s.firstReportGoes then s.due.filter (· ≠ .controlPass) else s.due

/-- Which of the due events is taken first: the free value of log 3 where there is a choice. -/
def chosen (n : Nat) (first : Instr) (others : List Instr) : Instr :=
  match others with
  | [] => first
  | _ :: _ => (first :: others).getD (Config.tieChoice n % (others.length + 1)) first

/-- The station left to itself: a due event is put on the queue, or the next level of the line is read, or a millisecond
passes (log 1, 5, 33, 37). -/
def State.idleStep (s : State) : State :=
  match s.next, s.wire with
  | [], [] => s.elapse 1
  | [], level :: levels => State.readLevel level { s with wire := levels }
  | first :: others, _ => { s with ties := s.ties + 1, pending := s.pending ++ [chosen s.ties first others] }

end Sys2Proof.Machine
end

