-- ==== Sys2Proof/Safety.lean ====
section
/-! DEFINITION. What a sound station is: one predicate for each block, built from the ranges and laws the spec states of
it, and their conjunction `State.Sound`. Also the frames that the statements use. Every predicate is decidable. -/

namespace Sys2Proof

/-- Each configuration value lies in its range (00, configuration symbols; R157, R168). -/
abbrev Settings.InRange (c : Settings) : Prop :=
  2 ≤ c.zones ∧ c.zones ≤ 16 ∧ (c.period = 250 ∨ c.period = 500 ∨ c.period = 1000) ∧ c.stages ≤ 3
  ∧ c.stagePower ≤ 2000 ∧ c.stagePower % 100 = 0 ∧ c.coolRating ≤ 250 ∧ c.coolantShare ≤ 1000
  ∧ -32 ≤ c.offset ∧ c.offset ≤ 32 ∧ c.kp ≤ 255 ∧ c.ki ≤ 255 ∧ c.deadBand ≤ 16
  ∧ c.fanMin ≤ 1000 ∧ c.fanHeatMin ≤ 1000 ∧ c.ventSpeed ≤ 1000 ∧ c.minFresh ≤ 1000
  ∧ c.reserveEl ≤ 6000 ∧ c.reserveC ≤ 250 ∧ c.blindBudget ≤ 60000 ∧ c.blindCooling ≤ 4000
  ∧ 220 ≤ c.supplyEntry ∧ c.supplyEntry ≤ 260 ∧ c.supplyEntry + 5 ≤ c.supplyExit ∧ c.supplyExit ≤ 300
  ∧ -32 ≤ c.trimRet ∧ c.trimRet ≤ 32 ∧ -32 ≤ c.trimDischarge ∧ c.trimDischarge ≤ 32
  ∧ -32 ≤ c.trimCoil ∧ c.trimCoil ≤ 32 ∧ -32 ≤ c.trimFresh ∧ c.trimFresh ≤ 32

end Sys2Proof

namespace Sys2Proof.Machine

/-! ## Station control -/

/-- A timer stands within its length. -/
abbrev Timer.within (most : Nat) (t : Timer) : Prop := ∀ left ∈ t, left ≤ most

/-- Station control (R166, R167, R168, R174, R176, R180). A pending restart has its OK reply still in the REPLY slot or
being sent: it stands due at no moment between two events. -/
abbrev State.ControlSound (s : State) : Prop :=
  1 ≤ s.own ∧ s.own ≤ 16 ∧ s.cfg.InRange ∧ (s.control.reading = false → s.own ≤ s.cfg.zones)
  ∧ (s.control.phase = .reading → s.control.state = .starting)
  ∧ (s.control.listen.isSome ↔ s.control.state = .starting ∧ s.control.phase = .listening)
  ∧ s.control.listen.within (2 * s.cfg.period)
  ∧ (s.control.test.isSome ↔ s.control.state = .test) ∧ s.control.test.within 120000
  ∧ (s.control.restartPending = true → s.control.state ≠ .starting ∧ s.link.holdsRestartOk = true)
  ∧ (s.control.read.isSome ↔ s.awake = true ∧ s.control.reading = true) ∧ s.control.read.within 100
  ∧ (s.pins.holdIsCold = true → s.pins.powered = true ∧ s.pins.resetLow = true)

/-- While the configuration is being read, and while the station is held in reset or has no supply, the blocks stand at
their first values (R17, R36, R57, R78, R95, R120, R148, R156, R158, R161, R167). -/
abbrev State.WaitingSound (s : State) : Prop :=
  (s.awake = false → s.control.reading = true ∧ s.link = .initial)
  ∧ (s.control.reading = true →
      s.sensing = .initial ∧ s.peers = .initial ∧ s.demand = .initial ∧ s.share = .initial
      ∧ s.arbiter = .initial ∧ s.output = .initial ∧ s.interlock.openDwell = none
      ∧ s.interlock.frost = .clear ∧ s.interlock.coldDwell = none ∧ s.interlock.warmDwell = none
      ∧ s.interlock.supply = .normal ∧ s.interlock.lowDwell = none ∧ s.interlock.recovery = none
      ∧ s.interlock.discharge = s.cfg.stages ∧ s.interlock.drop = none ∧ s.interlock.rise = none)

/-! ## Sensing unit -/

/-- A temperature lies in the working range (00, quantities). -/
abbrev inWorkingRange (t : Int) : Prop := -640 ≤ t ∧ t ≤ 1360

/-- One channel (section 1.4). -/
def ChannelData.sound (c : ChannelData) : Bool :=
  decide (c.badRun < 5 ∧ c.goodRun < 20
    ∧ (c.state = .good → c.goodRun = 0 ∧ c.kind = .none) ∧ (c.state = .fault → c.badRun = 0 ∧ c.kind ≠ .none)
    ∧ (∀ t ∈ c.filtered, inWorkingRange t))

/-- The sensing unit (R5, R7, R8, R11, R12, R14, R16). -/
abbrev State.SensingSound (s : State) : Prop :=
  s.sensing.ret.sound = true ∧ s.sensing.discharge.sound = true ∧ s.sensing.coil.sound = true
  ∧ s.sensing.fresh.sound = true
  ∧ (∀ v ∈ s.sensing.supply, v ≤ 400) ∧ inWorkingRange s.sensing.outside
  ∧ (s.cfg.freshFitted = false → s.sensing.fresh = .unseeded)
  ∧ (s.sensing.selected = true ↔ s.sensing.source ≠ OutsideSource.default)
  ∧ (s.sensing.source = .default → s.sensing.outside = 320)

/-! ## Link controller -/

/-- What the slot that a content belongs to holds now (R28). -/
def Link.slotOf (l : Link) : Content → Option Content
  | .report _ => l.reportSlot.map .report
  | .reply _ => l.replySlot.map .reply

/-- The content that a running attempt of the slots' own content sends is the slot's (R20, R28). -/
abbrev Link.AttemptIsSlots (l : Link) : Prop :=
  ∀ a ∈ l.attempt, a.live = true → l.slotOf a.content = some a.content

/-- The line as the link controller counts it (R19, R20, R21, R36; log 5). -/
abbrev State.LineSound (s : State) : Prop :=
  s.link.ones ≤ 12 ∧ s.micros < 1000
  ∧ (s.link.line = .unread → s.link.incoming = none ∧ s.link.attempt = none)
  ∧ (s.link.attempt.isSome → s.link.incoming.isSome)

/-- The link controller (R19, R20, R21, R24, R28, R30, R31, R36). -/
abbrev State.LinkSound (s : State) : Prop :=
  s.LineSound
  ∧ s.link.reportCount < 16 ∧ s.link.replyCount < 16
  ∧ (s.link.reportSlot = none → s.link.reportCount = 0) ∧ (s.link.replySlot = none → s.link.replyCount = 0)
  ∧ s.link.AttemptIsSlots
  ∧ (s.link.changed = true → s.link.sendingReport = true)
  ∧ (∀ r ∈ s.link.reportSlot, s.link.sendingReport = false → r = s.report)
  ∧ (s.control.state = .starting →
      s.link.reportSlot = none ∧ s.link.sinceReport = none ∧ s.link.sinceDiscard = none ∧ s.link.firstIn = none
      ∧ s.link.earlyIn = none)

/-! ## Peer table and source records -/

/-- One peer entry of station `own` (section 3.1; R37, R39, R40). -/
abbrev Entry.Sound (cfg : Settings) (own : Nat) (e : Entry) : Prop :=
  1 ≤ e.number ∧ e.number ≤ cfg.zones ∧ e.number ≠ own
  ∧ e.age ≤ 12 * cfg.period ∧ (e.state = .stale → 3 * cfg.period ≤ e.age)
  ∧ (e.state = .lost → e.age = 12 * cfg.period)
  ∧ e.dEl ≤ 6000 ∧ e.dC ≤ 250 ∧ e.cEl ≤ 6000 ∧ e.cC ≤ 250
  ∧ (∀ t ∈ e.ret, inWorkingRange t) ∧ (∀ t ∈ e.outside, inWorkingRange t)

/-- The peer block (R37, R39, R40, R46, R48 to R55). -/
abbrev State.PeersSound (s : State) : Prop :=
  (s.peers.table.map (·.number)).Pairwise (· < ·) ∧ (∀ e ∈ s.peers.table, e.Sound s.cfg s.own)
  ∧ s.peers.duplicate.within (12 * s.cfg.period)
  ∧ 272 ≤ s.peers.panel.setpoint ∧ s.peers.panel.setpoint ≤ 432 ∧ s.peers.panel.silence.within 30000
  ∧ (∀ w ∈ s.peers.budget.heard, w ≤ 60000) ∧ s.peers.budget.silence.within 5000
  ∧ (s.peers.budget.silence.isSome → s.peers.budget.heard.isSome)
  ∧ (∀ c ∈ s.peers.plant.capacity, c ≤ 4000) ∧ (∀ t ∈ s.peers.plant.coolant, inWorkingRange t)
  ∧ s.peers.plant.silence.within 5000
  ∧ (s.peers.plant.silence.isSome → s.peers.plant.capacity.isSome ∧ s.peers.plant.coolant.isSome)
  ∧ (s.peers.coolant = .hot →
      s.peers.plant.silence.isSome ∧ ∀ t ∈ s.peers.plant.coolant, 880 ≤ t)

/-! ## Demand and share -/

/-- The demand unit (R59, R64, R70, R71, R74 to R79). -/
abbrev State.DemandSound (s : State) : Prop :=
  let r := s.demand.record
  (s.demand.passTimer.isSome ↔ s.control.state = .running ∨ s.control.state = .test)
  ∧ s.demand.passTimer.within 1000
  ∧ (s.control.state = .starting ∨ s.control.state = .standby → r = .zero)
  ∧ (∀ t ∈ r.spEff, 256 ≤ t ∧ t ≤ 464) ∧ (∀ t ∈ r.tRet, inWorkingRange t)
  ∧ -1104 ≤ r.error ∧ r.error ≤ 1104 ∧ -1000 ≤ r.u ∧ r.u ≤ 1000 ∧ -60000 ≤ r.iAcc ∧ r.iAcc ≤ 60000
  ∧ (r.heat : Int) = max r.u 0 ∧ (r.cool : Int) = max (-r.u) 0
  ∧ r.coolantTarget ≤ 1000 ∧ r.stagesWanted ≤ s.cfg.stages
  ∧ r.dEl = r.stagesWanted * s.cfg.stagePower ∧ r.dC = r.cool * s.cfg.coolRating / 1000

/-- The share unit (R82, R85, R86, R88 to R92, R94 to R96). -/
abbrev State.ShareSound (s : State) : Prop :=
  s.share.nEl ≤ s.demand.record.stagesWanted ∧ s.share.nEl * s.cfg.stagePower ≤ s.share.budgetEl
  ∧ s.share.aC ≤ s.demand.record.dC ∧ s.share.aC ≤ s.share.budgetC
  ∧ s.share.shareEl ≤ s.share.budgetEl ∧ s.share.shareC ≤ s.share.budgetC
  ∧ s.share.headEl ≤ s.share.budgetEl ∧ s.share.headC ≤ s.share.budgetC
  ∧ s.share.budgetEl ≤ 60000 ∧ s.share.budgetC ≤ 4000
  ∧ (s.share.heatLimited = true ↔ 0 < s.demand.record.dEl ∧ s.share.nEl < s.demand.record.stagesWanted)
  ∧ (s.share.coolLimited = true ↔ s.share.aC < s.demand.record.dC)
  ∧ (s.interlock.frost = .frost → s.share.aC = 0)
  ∧ (s.share.hold = none → s.share.cap = 0) ∧ (s.share.hold.isSome → s.share.nEl ≤ s.share.cap)
  ∧ (s.share.hold.isSome → s.control.state = .running ∨ s.control.state = .test)
  ∧ s.share.hold.within (2000 * s.own) ∧ s.share.cap ≤ 3

/-! ## Mode arbiter -/

/-- No mode above AUTO is both pending and active (R97). -/
abbrev Marks.Apart (a b : Marks) : Prop := ∀ m ∈ raisableModes, ¬(a.get m = true ∧ b.get m = true)

/-- The modes in force: the governing one and the stack entries that are not retired (R97). -/
def Arbiter.inForce (a : Arbiter) : List Mode := a.governing :: (a.stack.filter (!·.retired)).map (·.mode)

/-- The marks, the stack and the timers agree (R97, R106 to R108, R112, R113). -/
abbrev Arbiter.Sound (a : Arbiter) : Prop :=
  a.stack.length ≤ 3
  ∧ (a.governing.level :: a.stack.map (·.mode.level)).Pairwise (· > ·)
  ∧ (a.governing = .auto ↔ a.stack = [])
  ∧ (∀ e ∈ a.stack.getLast?, e = { mode := .auto, retired := false })
  ∧ a.pending.Apart a.active
  ∧ (∀ m ∈ raisableModes, a.active.get m = true ↔ m ∈ a.inForce)
  ∧ (∀ m ∈ raisableModes, a.pending.get m = true → a.governing.level < m.level → a.stack.length = 3)
  ∧ (a.precondTimer.isSome ↔ a.active.precond = true) ∧ a.precondTimer.within 1800000
  ∧ (a.boostTimer.isSome ↔ a.active.boost = true) ∧ a.boostTimer.within 600000
  ∧ (a.purgeTimer.isSome ↔ a.active.purge = true) ∧ a.purgeTimer.within 300000
  ∧ a.dwell.within 1000 ∧ a.tail.within 20000
  ∧ (a.tail.isSome → a.cause = false ∧ (a.pending.door = true ∨ a.active.door = true))

/-- The adjacent door condition: the door flag of a LIVE entry of the own number less or more one (R43). -/
abbrev State.neighbourDoor (s : State) : Bool :=
  s.peers.table.any fun e =>
    decide (e.state = .live ∧ (e.number + 1 = s.own ∨ e.number = s.own + 1) ∧ e.door = true)

/-- The DOOR cause's conditions (R102). -/
abbrev State.doorHolds (s : State) : Bool := s.arbiter.ownDoor || (s.cfg.followAdjacent && s.neighbourDoor)

/-- The mode arbiter in its station (R101 to R104, R121, R122). -/
abbrev State.ArbiterSound (s : State) : Prop :=
  s.arbiter.Sound
  ∧ (s.control.state ≠ .running →
      s.arbiter.pending = .none ∧ s.arbiter.active = .none ∧ s.arbiter.governing = .auto ∧ s.arbiter.stack = []
      ∧ s.arbiter.tail = none)
  ∧ (s.control.state = .running → s.arbiter.cause = true →
      s.arbiter.pending.door = true ∨ s.arbiter.active.door = true)
  ∧ s.arbiter.cause = s.doorHolds
  ∧ (s.arbiter.ownDoor = true → s.cfg.doorZone = true ∧ s.pins.doorOpen = true)
  ∧ (s.arbiter.dwell.isSome → s.cfg.doorZone = true ∧ s.pins.doorOpen = true)

/-! ## Output stage -/

/-- Every target is the one its source gives in the station state (R123). -/
abbrev State.TargetsTaken (s : State) : Prop :=
  s.output.stageTarget = s.stageTarget ∧ s.output.fanTarget = s.flowTargets.fan
  ∧ s.output.evapTarget = s.flowTargets.evap ∧ s.output.coolantTarget = s.flowTargets.coolant
  ∧ s.output.damperTarget = s.flowTargets.damper

/-- The sequencer's state says what it waits for (section 7.2's table; R126). -/
abbrev Output.SequencerSound (o : Output) : Prop :=
  (o.seq = .settled → o.stagesOn = o.stageTarget)
  ∧ (o.seq = .waiting →
      o.stagesOn = 0 ∧ 0 < o.stageTarget ∧ (o.upDelay.isSome ∨ o.proof.isProven = false))
  ∧ (o.seq = .steppingUp → 0 < o.stagesOn ∧ o.stagesOn < o.stageTarget ∧ o.upDelay.isSome)
  ∧ (o.seq = .steppingDown ↔ o.downDelay.isSome)

/-- The time counted toward the fan proof, 5000 once proven (R125). -/
def FanProof.counted : FanProof → Nat
  | .idle => 0
  | .counting ms => ms
  | .proven => 5000

/-- The fan proof agrees with the fan position, its count with its length (R125). -/
abbrev Output.ProofSound (cfg : Settings) (o : Output) : Prop :=
  (o.proof ≠ .idle → cfg.fanHeatMin ≤ o.fanPos) ∧ o.proof.counted ≤ 5000

/-- Every target, position and setting is within 0 to 1000, the stage setting within S_n (R140, R141, R146). -/
def Output.inRange (stages : Nat) (o : Output) : Bool :=
  decide (o.fanTarget ≤ 1000 ∧ o.evapTarget ≤ 1000 ∧ o.coolantTarget ≤ 1000 ∧ o.damperTarget ≤ 1000
    ∧ o.fanPos ≤ 1000 ∧ o.evapPos ≤ 1000 ∧ o.coolantPos ≤ 1000 ∧ o.damperPos ≤ 1000
    ∧ o.settings.fan ≤ 1000 ∧ o.settings.evap ≤ 1000 ∧ o.settings.coolant ≤ 1000 ∧ o.settings.damper ≤ 1000
    ∧ o.settings.stages ≤ stages)

/-- The output stage (R123 to R126, R130, R137, R138, R140, R141, R144, R146). -/
abbrev State.OutputSound (s : State) : Prop :=
  s.TargetsTaken ∧ s.output.SequencerSound ∧ s.output.ProofSound s.cfg
  ∧ s.output.stagesOn ≤ s.interlock.ceiling ∧ s.output.stageTarget ≤ s.interlock.ceiling
  ∧ (0 < s.output.stagesOn → s.output.proof = .proven ∧ s.output.afterRun = none)
  ∧ s.output.upDelay.within (3000 + 250 * s.own) ∧ s.output.downDelay.within 500
  ∧ s.output.afterRun.within 30000
  ∧ s.output.inRange s.cfg.stages = true
  ∧ (s.output.fanTickIn.isSome ↔ s.control.reading = false) ∧ s.output.fanTickIn.within 100
  ∧ (s.output.damperTickIn.isSome ↔ s.control.reading = false) ∧ s.output.damperTickIn.within 1000
  ∧ (s.interlock.frost = .frost → s.output.evapPos = 0)
  ∧ (s.control.state = .starting ∨ s.control.state = .standby →
      s.output.evapPos = 0 ∧ s.output.coolantPos = 0)

/-! ## Interlock unit -/

/-- The interlock unit (R130, R150 to R152, R155, R158 to R161, R163). -/
abbrev State.InterlockSound (s : State) : Prop :=
  let i := s.interlock
  i.ceiling = i.effectiveCeiling ∧ i.discharge ≤ s.cfg.stages
  ∧ i.tripList.length ≤ 3 ∧ (i.trip ≠ .locked → i.tripList.length ≤ 2)
  ∧ i.tripList.Pairwise (· ≥ ·) ∧ (∀ age ∈ i.tripList, age ≤ 1800000)
  ∧ (i.openDwell.isSome → i.trip = .normal ∨ i.trip = .cooldown) ∧ i.openDwell.within 100
  ∧ (i.cooldown.isSome ↔ i.trip = .cooldown) ∧ i.cooldown.within 60000
  ∧ (i.coldDwell.isSome → i.frost = .clear) ∧ i.coldDwell.within 10000
  ∧ (i.warmDwell.isSome → i.frost = .frost) ∧ i.warmDwell.within 60000
  ∧ (i.lowDwell.isSome → i.supply = .normal) ∧ i.lowDwell.within 2000
  ∧ (i.recovery.isSome → i.supply = .low) ∧ i.recovery.within 10000
  ∧ (i.drop.isSome → i.rise = none) ∧ i.drop.within 10000
  ∧ (i.rise.isSome → i.discharge < s.cfg.stages) ∧ i.rise.within 30000

/-- Every block is sound. -/
abbrev State.Sound (s : State) : Prop :=
  s.ControlSound ∧ s.WaitingSound ∧ s.SensingSound ∧ s.LinkSound ∧ s.PeersSound ∧ s.DemandSound ∧ s.ShareSound
  ∧ s.ArbiterSound ∧ s.OutputSound ∧ s.InterlockSound

/-! ## First values -/

/-- The blocks at the values that a cold start and a pin reset give alike (R17, R36, R57, R78, R95, R120, R148, R156,
R158, R161), S_n being `stages`. -/
abbrev State.AtFirstValues (stages : Nat) (t : State) : Prop :=
  (∀ ch ∈ [Channel.ret, .discharge, .coil, .fresh],
    t.sensing.channel ch = { state := .good, badRun := 0, goodRun := 0, kind := .none, filtered := none })
  ∧ t.sensing.supply = none ∧ t.sensing.outside = 320 ∧ t.sensing.source = .default ∧ t.sensing.selected = false
  ∧ t.link = {
      line := .unread, ones := 0, incoming := none, reportSlot := none, replySlot := none, reportCount := 0,
      replyCount := 0, attempt := none, sinceReport := none, sinceDiscard := none, firstIn := none, earlyIn := none,
      changed := false }
  ∧ t.peers = {
      table := [], duplicate := none, panel := { mode := .auto, setpoint := 352, silence := none },
      budget := { heard := none, silence := none },
      plant := { capacity := none, coolant := none, fault := false, silence := none }, coolant := .cold }
  ∧ t.demand = { passTimer := none, record := .zero } ∧ t.share = .initial
  ∧ t.arbiter = {
      pending := .none, active := .none, governing := .auto, stack := [], precondTimer := none,
      boostTimer := none, purgeTimer := none, ownDoor := false, dwell := none, cause := false, tail := none }
  ∧ t.output = {
      stagesOn := 0, stageTarget := 0, seq := .settled, upDelay := none, downDelay := none, proof := .idle,
      afterRun := none, fanTarget := 0, evapTarget := 0, coolantTarget := 0, damperTarget := 0, fanPos := 0,
      evapPos := 0, coolantPos := 0, damperPos := 0,
      settings := { fan := 0, evap := 0, coolant := 0, damper := 0, stages := 0 }, fanTickIn := none,
      damperTickIn := none }
  ∧ t.interlock = { t.interlock with
      openDwell := none, frost := .clear, coldDwell := none, warmDwell := none,
      supply := .normal, lowDwell := none, recovery := none, discharge := stages, drop := none, rise := none }

/-- Station control as a cold start or a pin reset leaves it, the read apart (R167, R178). -/
abbrev Control.Begun (own : Nat) (cause : StartCause) (c : Control) : Prop :=
  c.state = .starting ∧ c.phase = .reading ∧ c.own = own ∧ c.cause = cause ∧ c.listen = none ∧ c.test = none
  ∧ c.restartPending = false

/-- The trip machine's part that a pin reset keeps, and the ceiling it gives (R154, R165). -/
abbrev State.KeepsTrip (s t : State) : Prop :=
  t.interlock.trip = s.interlock.trip ∧ t.interlock.cooldown = s.interlock.cooldown
  ∧ t.interlock.tripList = s.interlock.tripList
  ∧ t.interlock.ceiling = if s.interlock.trip = .normal then t.cfg.stages else 0

/-- The trip machine after a cold start (R154, R165). -/
abbrev State.ClearsTrip (t : State) : Prop :=
  t.interlock.trip = .normal ∧ t.interlock.cooldown = none ∧ t.interlock.tripList = []
  ∧ t.interlock.ceiling = t.cfg.stages

/-! ## The link controller in the statements -/

/-- The link controller as an event of another block leaves it: only the waiting report's content, the early report and
the mark of a change may differ (R30, R33). -/
abbrev Link.UpkeptFrom (before after : Link) : Prop :=
  after = { before with reportSlot := after.reportSlot, earlyIn := after.earlyIn, changed := after.changed }
  ∧ after.reportSlot.isSome = before.reportSlot.isSome

/-- Whether a content is a REPORT's. -/
def Content.isReport : Content → Bool
  | .report _ => true
  | .reply _ => false

/-- A reply placed in the REPLY slot: it replaces an older one, whose attempt, if any, goes on (R28). -/
abbrev Link.AnsweredFrom (r : Reply) (before after : Link) : Prop :=
  after = { before with
    reportSlot := after.reportSlot, earlyIn := after.earlyIn, changed := after.changed, replySlot := some r,
    replyCount := 0, attempt := before.attempt.map fun a => { a with live := a.live && a.content.isReport } }
  ∧ after.reportSlot.isSome = before.reportSlot.isSome

/-- The kind and target of a service request. -/
def requestOfCommand : Instr → Option (RequestKind × Fin 32)
  | .readStatus t => some (.readStatus, t)
  | .readPeer t _ => some (.readPeer, t)
  | .readConfig t => some (.readConfig, t)
  | .testOutput t _ _ => some (.testOutput, t)
  | .endTest t => some (.endTest, t)
  | .restart t => some (.restart, t)
  | .clearLock t => some (.clearLock, t)
  | _ => none

/-- Whether a command is the arrival of a message other than a service request. -/
def isArrival : Instr → Bool
  | .overloadArrival | .postArrival _ _ _ _ | .budgetArrival _ | .plantArrival _ _ _ | .panelArrival _ _
  | .reportArrival _ _ => true
  | _ => false

/-- A message of another station reaches its blocks: the station is awake, has read an idle line since its beginning and
has its configuration (R19, R27, R36). -/
abbrev State.Hears (s : State) : Prop := s.acting = true ∧ s.link.line ≠ .unread

/-- A request that the station judges by its own rules: it is awake and has read an idle line, the target is its own
number, it is not reading and no restart is pending (R19, R27, R172). -/
abbrev State.Judges (target : Fin 32) (s : State) : Prop :=
  s.awake = true ∧ s.link.line ≠ .unread ∧ target.val = s.own ∧ s.control.reading = false ∧ s.control.restartPending = false

/-- The restart of `u` takes effect: the station listens again; what it knows of the coach, its samples, its trip machine
and its configuration stay (R18, R36, R58, R78, R95, R121, R149, R156, R158, R161, R165, R176; log 22). -/
abbrev State.RestartsFrom (u t : State) : Prop :=
  t = { u with
    control := t.control, link := t.link, peers := { u.peers with duplicate := none },
    demand := { passTimer := none, record := .zero }, share := .initial, arbiter := t.arbiter,
    output := t.output, interlock := t.interlock }
  ∧ t.control = { u.control with
      state := .starting, phase := .listening, cause := .restart, listen := some (2 * u.cfg.period),
      test := none, restartPending := false }
  ∧ t.link = { u.link with
      reportSlot := none, reportCount := 0, sinceReport := none, sinceDiscard := none, firstIn := none,
      earlyIn := none, changed := false,
      attempt := u.link.attempt.map fun a => { a with live := a.live && !a.content.isReport } }
  ∧ t.arbiter = { u.arbiter with
      pending := .none, active := .none, governing := .auto, stack := [], precondTimer := none,
      boostTimer := none, purgeTimer := none, tail := none }
  ∧ t.output = ({ u.output with
      evapPos := 0, coolantPos := 0,
      settings := { fan := 0, evap := 0, coolant := 0, damper := 0, stages := 0 } }.takeFlow
        { fan := 0, evap := 0, coolant := 0, damper := 0 }).takeStageTarget u.own 0
  ∧ t.interlock = { u.interlock with
      frost := .clear, coldDwell := none, warmDwell := none, supply := .normal, lowDwell := none,
      recovery := none, discharge := u.cfg.stages, drop := none, rise := none,
      ceiling := if u.interlock.trip = .normal then u.cfg.stages else 0 }

/-- What an event that leaves the station as `u` comes to where it may have let go of the OK reply to RESTART: the restart
takes effect within it (R176; log 6). -/
abbrev State.SettlesRestart (u t : State) : Prop :=
  if u.control.restartPending = true ∧ u.link.holdsRestartOk = false then u.RestartsFrom t else t = u

/-! ## The READ_STATUS payload -/

/-- A bit or mark as its byte (10.1). -/
abbrev shown (b : Bool) : List Byte := [if b = true then 1#8 else 0#8]

/-- A value that may be absent as presence byte and two bytes (10.1). -/
abbrev shownOptional (x : Option Int) : List Byte :=
  match x with
  | some v => 1#8 :: wordBytes (BitVec.ofInt 16 v)
  | none => [0#8, 0#8, 0#8]

/-- A quantity of four bytes (10.1). -/
abbrev shownLong (n : Nat) : List Byte := wordBytes (BitVec.ofNat 16 (n / 65536)) ++ wordBytes (BitVec.ofNat 16 n)

/-- The marks of the six modes above AUTO, ECONOMY first (10.1). -/
abbrev shownMarks (m : Marks) : List Byte :=
  shown m.economy ++ shown m.vent ++ shown m.precond ++ shown m.boost ++ shown m.purge ++ shown m.door

/-- The fields of station control, the sensing unit, the peer block and the demand record in the READ_STATUS payload, with
the place of the first byte of each (R10, R56, R77, R173, 10.1; log 12). -/
def State.statusFront (s : State) : List (Nat × List Byte) :=
  let n := fun (x : Nat) => [BitVec.ofNat 8 x]
  let w := fun (x : Nat) => wordBytes (BitVec.ofNat 16 x)
  let z := fun (x : Int) => wordBytes (BitVec.ofInt 16 x)
  let t := fun (x : Timer) => w (x.getD 0)
  let c := s.control
  let p := s.peers
  let r := s.demand.record
  let state := match c.state with | .running => n 0 | .standby => n 1 | .test => n 2 | .starting => []
  [(0, state), (3, n c.own), (4, t c.listen), (6, shownLong (c.test.getD 0)), (10, shown c.cfgDefault),
   (11, shown c.cfgClamped),
   (14, shownOptional s.sensing.ret.filtered), (19, shownOptional s.sensing.discharge.filtered),
   (24, shownOptional s.sensing.coil.filtered), (29, shownOptional s.sensing.fresh.filtered),
   (32, shownOptional (s.sensing.supply.map Int.ofNat)), (35, z s.sensing.outside),
   (38, shown p.duplicate.isSome), (39, shown p.panel.silence.isNone), (40, shown p.budget.silence.isNone),
   (41, shown p.plant.silence.isNone),
   (43, match p.panel.mode with | .off => n 0 | .auto => n 1 | .vent => n 2 | .economy => n 3),
   (44, z p.panel.setpoint), (46, t p.panel.silence),
   (49, shownOptional (p.budget.heard.map Int.ofNat)), (52, t p.budget.silence),
   (55, shownOptional (p.plant.capacity.map Int.ofNat)), (58, shownOptional p.plant.coolant), (61, t p.plant.silence),
   (63, shown p.plant.fault), (65, t p.duplicate),
   (67, w (if p.budget.silence.isSome then p.budget.heard.getD 0 else s.cfg.blindBudget)),
   (69, w (if p.plant.silence = none then s.cfg.blindCooling
           else if p.plant.fault = true then 0 else p.plant.capacity.getD 0)),
   (71, shownOptional r.spEff), (74, shownOptional r.tRet), (78, z r.error), (80, z r.u),
   (82, z (r.iAcc / 65536) ++ z r.iAcc), (86, w r.heat), (88, w r.cool), (90, w r.coolantTarget),
   (92, n r.stagesWanted), (93, w r.dEl), (95, w r.dC)]

/-- The fields of the allowance record, the mode arbiter, the output stage and the interlock unit in the READ_STATUS
payload, with the place of the first byte of each (R91, R119, R147, R164, 10.1; logs 12, 28 to 31). -/
def State.statusBack (s : State) : List (Nat × List Byte) :=
  let n := fun (x : Nat) => [BitVec.ofNat 8 x]
  let w := fun (x : Nat) => wordBytes (BitVec.ofNat 16 x)
  let t := fun (x : Timer) => w (x.getD 0)
  let long := fun (x : Timer) => shownLong (x.getD 0)
  let h := s.share
  let a := s.arbiter
  let o := s.output
  let i := s.interlock
  let place := fun (k : Nat) => match a.stack.reverse[k]? with
    | some e => n e.mode.level ++ shown e.retired
    | none => [0#8, 0#8]
  let set := if s.control.state = .test then o.settings else { fan := 0, evap := 0, coolant := 0, damper := 0, stages := 0 }
  let proof := match o.proof with
    | .idle => (false, 0) | .counting counted => (false, counted) | .proven => (true, 5000)
  let combination := decide (o.fanTarget < s.cfg.fanHeatMin ∧ (0 < o.stagesOn ∨ o.afterRun.isSome))
  [(97, n h.nEl), (98, w h.aC), (100, shown h.heatLimited), (101, shown h.coolLimited), (102, w h.shareEl),
   (104, w h.shareC), (106, w h.headEl), (108, w h.headC), (110, shownLong h.weightedEl), (114, w h.weightedC),
   (116, w h.budgetEl), (118, w h.budgetC), (120, t h.hold), (122, n h.cap), (123, [0#8, 0#8]),
   (125, n a.governing.level), (126, shownMarks a.pending), (132, shownMarks a.active), (138, n a.stack.length),
   (139, place 0), (141, place 1), (143, place 2), (145, long a.precondTimer), (149, long a.boostTimer),
   (153, long a.purgeTimer), (157, shown a.ownDoor), (158, shown a.dwell.isSome), (159, shown s.neighbourDoor),
   (160, shown a.cause), (161, t a.tail),
   (164, n o.stagesOn), (165, n o.stageTarget), (166, n i.ceiling), (167, t o.upDelay), (169, t o.downDelay),
   (171, shown proof.1), (172, w proof.2), (174, t o.afterRun), (176, shown combination),
   (177, w o.fanTarget), (179, w s.effectiveFan), (181, w s.effectiveFan), (183, w o.fanPos), (185, w o.evapTarget),
   (187, w o.evapPos), (189, w o.coolantTarget), (191, w o.coolantPos), (193, w o.damperTarget), (195, w o.damperPos),
   (197, w set.fan), (199, w set.evap), (201, w set.coolant), (203, w set.damper), (205, n set.stages),
   (206, w s.electricClaim), (208, w s.coolingClaim),
   (214, t i.openDwell), (216, t i.cooldown), (218, t i.coldDwell), (220, t i.warmDwell), (222, t i.lowDwell),
   (224, t i.recovery), (226, t i.drop), (228, t i.rise), (230, n i.tripList.length),
   (231, shownLong (i.tripList.getD 0 0)), (235, shownLong (i.tripList.getD 1 0)),
   (239, shownLong (i.tripList.getD 2 0)), (243, w s.cfg.supplyEntry), (245, w s.cfg.supplyExit),
   (247, n i.discharge), (248, n i.ceiling)]

/-- A READ_STATUS payload shows the station: each field stands in its place. -/
abbrev State.StatusShown (s : State) (payload : List Byte) : Prop :=
  ∀ field ∈ s.statusFront ++ s.statusBack, (payload.drop field.1).take field.2.length = field.2

/-! ## Time and the line in the statements -/

/-- Whether an event of the station's own has come due: its timer has run out, its age or count has reached its end, or an
attempt can begin (R20, R31, R33 to R35, R40, R125, R152; each timer's rule is its command's). -/
def State.fallsDue (s : State) : Instr → Bool
  | .configurationReadEnd bytes => bytes = [] && s.control.read = some 0
  | .listenTimerExpiry => s.control.listen = some 0
  | .testTimerExpiry => s.control.test = some 0
  | .attemptBegin =>
    s.awake && decide (s.link.line = .idle ∧ s.link.attempt = none
      ∧ (s.link.replySlot.isSome ∨ (s.link.reportSlot.isSome ∧ s.control.state ≠ .starting)))
  | .firstReportDue => s.link.firstIn = some 0
  | .earlyReportDue => s.link.earlyIn = some 0
  | .reportDue =>
    let period := if s.control.state = .standby then 4 * s.cfg.period else s.cfg.period
    let since := if s.link.sinceDiscard.isSome then s.link.sinceDiscard else s.link.sinceReport
    decide (s.control.state ≠ .starting ∧ s.link.reportSlot = none) && since.any (period ≤ ·)
  | .entryStale n => s.peers.table.any fun e => e.number = n && e.state = .live && 3 * s.cfg.period ≤ e.age
  | .entryLost n => s.peers.table.any fun e => e.number = n && e.state = .stale && 12 * s.cfg.period ≤ e.age
  | .duplicateTimerExpiry => s.peers.duplicate = some 0
  | .panelTimeout => s.peers.panel.silence = some 0
  | .budgetTimeout => s.peers.budget.silence = some 0
  | .plantTimeout => s.peers.plant.silence = some 0
  | .controlPass => s.demand.passTimer = some 0
  | .overloadHoldExpiry => s.share.hold = some 0
  | .modeTimerExpiry .precond => s.arbiter.precondTimer = some 0
  | .modeTimerExpiry .boost => s.arbiter.boostTimer = some 0
  | .modeTimerExpiry .purge => s.arbiter.purgeTimer = some 0
  | .doorDwellExpiry => s.arbiter.dwell = some 0
  | .doorTailExpiry => s.arbiter.tail = some 0
  | .stepUpDelayExpiry => s.output.upDelay = some 0
  | .stepDownDelayExpiry => s.output.downDelay = some 0
  | .fanProven => match s.output.proof with | .counting ms => 5000 ≤ ms | .idle | .proven => false
  | .afterRunExpiry => s.output.afterRun = some 0
  | .fanTick => s.output.fanTickIn = some 0
  | .damperTick => s.output.damperTickIn = some 0
  | .openDwellExpiry => s.interlock.openDwell = some 0
  | .cooldownExpiry => s.interlock.cooldown = some 0
  | .tripEntryAgeOut => s.interlock.tripList.head?.any (1800000 ≤ ·)
  | .coldDwellExpiry => s.interlock.coldDwell = some 0
  | .warmDwellExpiry => s.interlock.warmDwell = some 0
  | .lowDwellExpiry => s.interlock.lowDwell = some 0
  | .recoveryDwellExpiry => s.interlock.recovery = some 0
  | .dropTimerExpiry => s.interlock.drop = some 0
  | .riseTimerExpiry => s.interlock.rise = some 0
  | .coldStart _ | .resetPinLow | .pinReset _ | .logicSupplyFall | .restartTakesEffect | .temperatureSample _ _
  | .supplySample _ | .attemptComplete | .contentionLoss | .attemptError | .receptionDrop _ | .overloadArrival
  | .postArrival _ _ _ _ | .budgetArrival _ | .plantArrival _ _ _ | .panelArrival _ _ | .reportArrival _ _
  | .readStatus _ | .readPeer _ _ | .readConfig _ | .testOutput _ _ _ | .endTest _ | .restart _ | .clearLock _
  | .doorInputOpen | .doorInputClose | .heatLimitOpen | .heatLimitClose | .lineIdle => false

/-- Several levels read one after another, with the commands they bring. -/
def Link.readLevels (own : Nat) : List Bool → Link → Link × List Instr
  | [], l => (l, [])
  | level :: levels, l =>
    let first := l.readLevel own level
    let rest := first.1.readLevels own levels
    (rest.1, first.2 ++ rest.2)

/-! ## Effects shared by the statements -/

/-- Targets handed to the output stage, which stood at `o` before them (R123). -/
abbrev State.TakesTargets (o : Output) (t : State) : Prop :=
  t.output = (o.takeFlow t.flowTargets).takeStageTarget t.own t.stageTarget

/-- The allowance formed from the inputs as they now stand; the overload hold of `u`, the station before, goes on with its
cap (R80, R91, R94). -/
abbrev State.Reckons (u t : State) : Prop :=
  t.share = allowance { t.shareInputs with hold := u.share.hold, cap := u.share.cap }

/-- The allowance of a station that stood at `u` formed afresh and handed to the output stage, which stood at `o` (R80,
R81). -/
abbrev State.Recomputes (u : State) (o : Output) (t : State) : Prop := u.Reckons t ∧ t.TakesTargets o

/-- What a change of the governing mode hands on (R98). -/
abbrev State.HandsMode (u t : State) : Prop :=
  if t.arbiter.governing = u.arbiter.governing then t.share = u.share ∧ t.output = u.output
  else u.Recomputes u.output t

/-- The station once its allowance has been formed afresh and handed to the output stage (R80, R81). -/
def State.reckoned (u : State) : State :=
  let w := { u with share := allowance u.shareInputs }
  { w with output := (u.output.takeFlow w.flowTargets).takeStageTarget u.own w.stageTarget }

/-- The station once its arbiter is `a`, a change of the governing mode handed on (R98). -/
def State.withMode (a : Arbiter) (u : State) : State :=
  if a.governing = u.arbiter.governing then { u with arbiter := a } else State.reckoned { u with arbiter := a }

/-- The DOOR cause re-evaluated to `holds` (R102, R103). -/
abbrev Arbiter.CauseJudged (holds running : Bool) (a b : Arbiter) : Prop :=
  (a.cause = holds → b = a)
  ∧ (a.cause = false → holds = true → running = true → b = { a with cause := true, tail := none }.raise .door)
  ∧ (a.cause = false → holds = true → running = false → b = { a with cause := true })
  ∧ (a.cause = true → holds = false →
      b = { a with cause := false
                   tail := if a.pending.door = true ∨ a.active.door = true then some 20000 else a.tail })

/-- What an event of the peer entry of `number` hands on (R41, R43): to the share unit, the outside selection and, for a
neighbour, the mode arbiter. The share unit's allowance goes to the output stage first, then what a change of the
governing mode brings (log 17). -/
abbrev State.HandsEntry (number : Nat) (u t : State) : Prop :=
  t.sensing = selectOutside u.cfg.freshFitted t.peers.table u.sensing
  ∧ u.Reckons t ∧ t.TargetsTaken
  ∧ (if number + 1 = u.own ∨ number = u.own + 1 then u.arbiter.CauseJudged t.doorHolds u.isRunning t.arbiter
     else t.arbiter = u.arbiter)
  ∧ (State.reckoned { u with peers := t.peers }).HandsMode t

/-- The effective ceiling of the interlock unit (R163). -/
abbrev Interlock.ceilingOf (i : Interlock) : Nat :=
  if i.trip = .normal ∧ i.supply = .normal then i.discharge else 0

/-- What a change of the effective ceiling hands on, and what one that leaves it as it was does not (R131, R163). The stage
target taken in TEST is R123's (log 36). -/
abbrev State.HandsCeiling (u t : State) : Prop :=
  t.interlock.ceiling = t.interlock.ceilingOf
  ∧ (if t.interlock.ceiling = u.interlock.ceiling then t.output = u.output
     else if t.interlock.ceiling < u.output.stagesOn then
       t.TargetsTaken
       ∧ t.output = { u.output with
           fanTarget := t.output.fanTarget, evapTarget := t.output.evapTarget,
           coolantTarget := t.output.coolantTarget, damperTarget := t.output.damperTarget,
           stageTarget := t.output.stageTarget, stagesOn := t.interlock.ceiling, upDelay := none,
           downDelay := if t.output.stageTarget < t.interlock.ceiling then some 500 else none,
           seq := if t.output.stageTarget < t.interlock.ceiling then .steppingDown else .settled,
           afterRun := if t.interlock.ceiling = 0 then some 30000 else u.output.afterRun }
     else t.TakesTargets u.output)

/-- Entry to STANDBY, the output stage's part apart (R79, R96, R122, R178). -/
abbrev State.StandsBy (u t : State) : Prop :=
  t.control = { u.control with state := .standby, listen := none, test := none }
  ∧ t.demand = { passTimer := none, record := .zero }
  ∧ t.share = allowance { t.shareInputs with hold := none, cap := 0 } ∧ t.share.hold = none ∧ t.share.cap = 0
  ∧ t.arbiter = { u.arbiter with
      pending := .none, active := .none, governing := .auto, stack := [], precondTimer := none, boostTimer := none,
      purgeTimer := none, tail := none }

/-- The mode that stands raised by the panel (R99). -/
def panelMode : PanelMode → Mode
  | .economy => .economy
  | .vent => .vent
  | .off | .auto => .auto

/-- Entry to RUNNING from an arbiter in AUTO (R59, R104, R145, R178). -/
abbrev State.Runs (u t : State) : Prop :=
  let p := panelMode u.peers.panel.mode
  t.control = { u.control with state := .running, listen := none, test := none }
  ∧ t.demand = { u.demand with
      passTimer := if u.control.state = .test then u.demand.passTimer else some 1000 }
  ∧ t.arbiter = { u.arbiter with
      active := {
        economy := p = .economy, vent := p = .vent, precond := false, boost := false, purge := false,
        door := u.arbiter.cause }
      governing := if u.arbiter.cause then .door else p
      stack := (if u.arbiter.cause = true ∧ p ≠ .auto then [{ mode := p, retired := false }] else [])
        ++ (if u.arbiter.cause = true ∨ p ≠ .auto then [{ mode := .auto, retired := false }] else []) }
  ∧ (if t.arbiter.governing = .auto then t.share = u.share else u.Reckons t)
  ∧ t.TakesTargets u.output

end Sys2Proof.Machine
end

