-- ==== Sys2Proof/Certificates/Slice0/Obligations.lean ====
section
/-! DEFINITION. The statements for the provers, in the order of OBLIGATIONS.json. A command's statement gives its next
state: what it writes, and that the rest stands. An expiry's statement speaks of `s.elapse left`, the station after the
time left to the timer has passed (log 2). -/

open Sys2Proof Sys2Proof.Machine

/-! ## The step, the commands in general, and the messages -/

/-- A step takes the command at the front of the queue and runs its meaning on the station with the rest of the queue. -/
def Obligations.StepRunsFrontCommand : Prop :=
  ∀ (c : Instr) (s : State), step { s with pending := c :: s.pending } = exec c s

/-- An event of the station's own is due exactly where its timer has run out, its age or count is at its end, or an
attempt can begin. On an empty queue a step queues an event that is due; where none is, it reads the next level of the
line, a bit time of 16 microseconds, or, with no level to read, lets a millisecond pass (R19, R20, R31, R33, R34, R35,
R40). The first report after a beginning, where it falls due or its attempt can begin, goes before a control pass (R78).
The model's choice (log 1, 3, 5, 33, 37). -/
def Obligations.EmptyQueueWaitsOrQueuesDueEvent : Prop :=
  ∀ (s : State),
    (s.restartDue = false → ∀ c, c ∈ s.due ↔ s.fallsDue c = true)
    ∧ (s.pending = [] → s.due ≠ [] →
        let first := s.link.firstIn = some 0
          ∨ (s.fallsDue .attemptBegin = true ∧ s.control.state ≠ .starting ∧ s.link.reportSlot.isSome
            ∧ s.link.sinceReport = none ∧ s.link.sinceDiscard = none)
        ∃ c ∈ s.due, (first → c ≠ .controlPass) ∧ step s = .next { s with ties := s.ties + 1, pending := [c] })
    ∧ (s.pending = [] → s.due = [] → s.wire = [] → step s = .next (s.elapse 1))
    ∧ (s.pending = [] → s.due = [] → ∀ level levels, s.wire = level :: levels →
        let u := if s.micros < 984 then { s with wire := levels, micros := s.micros + 16 }
          else { s.elapse 1 with wire := levels, micros := s.micros - 984 }
        let read := u.link.readLevel s.own level
        step s = .next (if s.awake = true then { u with link := read.1, pending := read.2 } else u))

/-- The passing of time: every running timer comes nearer its end and stops counting there, every age, count and time
since an event grows, and nothing else changes (R31, R40, R46, R48, R59, R91, R101, R103, R113, R124, R125, R138, R140,
R143, R150 to R152, R155, R158 to R160, R167, R174). -/
def Obligations.TimePasses : Prop :=
  ∀ (ms : Nat) (s : State), s.Sound →
    let down := fun (t : Timer) => t.map (· - ms)
    let up := fun (t : Option Nat) => t.map (· + ms)
    let t := s.elapse ms
    t = { s with
      control := { s.control with
        listen := down s.control.listen, test := down s.control.test, read := down s.control.read }
      link := { s.link with
        sinceReport := up s.link.sinceReport, sinceDiscard := up s.link.sinceDiscard, firstIn := down s.link.firstIn
        earlyIn := down s.link.earlyIn }
      peers := { s.peers with
        table := s.peers.table.map fun e => { e with age := min (e.age + ms) (12 * s.cfg.period) }
        duplicate := down s.peers.duplicate
        panel := { s.peers.panel with silence := down s.peers.panel.silence }
        budget := { s.peers.budget with silence := down s.peers.budget.silence }
        plant := { s.peers.plant with silence := down s.peers.plant.silence } }
      demand := { s.demand with passTimer := down s.demand.passTimer }
      share := { s.share with hold := down s.share.hold }
      arbiter := { s.arbiter with
        precondTimer := down s.arbiter.precondTimer, boostTimer := down s.arbiter.boostTimer
        purgeTimer := down s.arbiter.purgeTimer, dwell := down s.arbiter.dwell, tail := down s.arbiter.tail }
      output := { s.output with
        upDelay := down s.output.upDelay, downDelay := down s.output.downDelay, afterRun := down s.output.afterRun
        fanTickIn := down s.output.fanTickIn, damperTickIn := down s.output.damperTickIn
        proof := match s.output.proof with
          | .counting counted => .counting (min (counted + ms) 5000)
          | .idle => .idle
          | .proven => .proven }
      interlock := { s.interlock with
        openDwell := down s.interlock.openDwell, cooldown := down s.interlock.cooldown
        tripList := s.interlock.tripList.map fun age => min (age + ms) 1800000
        coldDwell := down s.interlock.coldDwell, warmDwell := down s.interlock.warmDwell
        lowDwell := down s.interlock.lowDwell, recovery := down s.interlock.recovery, drop := down s.interlock.drop
        rise := down s.interlock.rise } }

/-- The message that a command is, with its check, is received as that command. A REPORT that the station sends is
received as that report from its own number; a SERVICE REPLY carries its key, the request kind, the result, the length of
its payload, the payload and the check (10.1, R23, R25, R26, R32, R179). -/
def Obligations.MessagesReadAsWritten : Prop :=
  ∀ (i : Instr) (bytes : List Byte) (own : Nat) (report : ReportBody) (reply : Reply),
    (i.wf = true → encodeMessage i = some bytes → decodeMessage bytes = some i)
    ∧ (1 ≤ own → own ≤ 16 →
        (let m := Content.message own (.report report)
         m.length = 16 ∧ (m.headD 0#8).toNat = 160 + own ∧ decodeMessage m = some (.reportArrival own report))
        ∧ (let m := Content.message own (.reply reply)
           let kind : Nat := match reply.kind with
             | .readStatus => 1 | .readPeer => 2 | .readConfig => 3 | .testOutput => 4 | .endTest => 5 | .restart => 6
             | .clearLock => 7
           let result : Nat := match reply.result with | .ok => 0 | .busy => 1 | .refused => 2 | .notPresent => 3
           let body := [192 + own, kind, result, reply.payload.length].map (BitVec.ofNat 8) ++ reply.payload
           m = body ++ wordBytes (check body) ∧ checked m = some body ∧ decodeMessage m = none))

/-- A message is accepted only with its right check, in the length of its class and from a source that R26's table
pairs with its class; the command it is has operands within R26's bounds (R25, R26). -/
def Obligations.AcceptedMessagesAreInTable : Prop :=
  ∀ (bytes : List Byte) (i : Instr), decodeMessage bytes = some i →
    let messageClass := (bytes.headD 0#8).toNat / 32
    let source := (bytes.headD 0#8).toNat % 32
    i.wf = true ∧ (encodeMessage i).isSome = true
    ∧ bytes = withCheck (bytes.take (bytes.length - 2))
    ∧ ((messageClass = 0 ∧ source = 25 ∧ bytes.length = 3)
      ∨ (messageClass = 1 ∧ assigned source = true ∧ bytes.length = 6)
      ∨ (messageClass = 2 ∧ source = 25 ∧ bytes.length = 5)
      ∨ (messageClass = 3 ∧ source = 26 ∧ bytes.length = 8)
      ∨ (messageClass = 4 ∧ source = 24 ∧ bytes.length = 6)
      ∨ (messageClass = 5 ∧ isZone source = true ∧ bytes.length = 16)
      ∨ (messageClass = 6 ∧ source = 30 ∧ bytes.length = 8))

/-! ## The line, level by level -/

/-- One level read from the line. With no message on it, a 0 on an idle line is a start bit and makes it busy, and the
twelfth 1 in a row makes it idle. Within a message of another station a stop bit of 0 drops it; a 1 where a character
would start ends it, and it arrives if it is whole, no longer than its class and key permit and its check is good; the
twelfth 1 cuts it short. In an attempt the level is compared with the bit sent (R19, R20, R21, R22, R23, R25). The
moments of the end and of a drop are the model's choice (log 34). -/
def Obligations.LineLevelsRead : Prop :=
  ∀ (own : Nat) (level : Bool) (l : Link),
    let r := l.readLevel own level
    let ones := if level = true then min 12 (l.ones + 1) else 0
    let idle := if level = true ∧ l.ones = 11 then [Instr.lineIdle] else []
    let bits := l.incoming.getD []
    let starts := bits.length % 10 = 0 ∧ level = true
    let stops := bits.length % 10 = 9 ∧ level = false
    r.1 = { l with line := r.1.line, ones := ones, incoming := r.1.incoming }
    ∧ (l.attempt = none → bits = [] →
        (l.line = .idle → level = false → r.1.line = .busy ∧ r.1.incoming = some [false] ∧ r.2 = [])
        ∧ (l.line ≠ .idle ∨ level = true → r.1.line = l.line ∧ r.1.incoming = none ∧ r.2 = idle))
    ∧ (l.attempt = none → bits ≠ [] → r.1.line = l.line
        ∧ (starts → r.1.incoming = none
            ∧ ∀ bytes, bits = messageBits bytes →
                ∃ dropped, r.2 = (decodeMessage bytes).getD (.receptionDrop dropped) :: idle)
        ∧ (stops → r.1.incoming = none ∧ ∃ dropped, r.2 = [.receptionDrop dropped])
        ∧ (¬starts → ¬stops → idle ≠ [] → r.1.incoming = none ∧ ∃ dropped, r.2 = .receptionDrop dropped :: idle)
        ∧ (¬starts → ¬stops → idle = [] → r.1.incoming = some (bits ++ [level]) ∧ r.2 = []))
    ∧ (∀ a ∈ l.attempt, let sent := messageBits (a.content.message own)
        ∀ n < sent.length, l.incoming = some (sent.take n) → r.1.line = l.line
          ∧ (level = sent.getD n true →
              r.1.incoming = some (sent.take (n + 1))
              ∧ r.2 = if n + 1 = sent.length then [.attemptComplete] else [])
          ∧ (level ≠ sent.getD n true → 1 ≤ n → r.1.incoming = some (bits ++ [level])
              ∧ (let failure := if n ≤ 8 ∧ sent.getD n true = true then .contentionLoss else .attemptError
                (¬starts → ¬stops → r.2 = [failure])
                ∧ (starts → ∀ bytes, bits = messageBits bytes →
                    ∃ dropped, r.2 = [failure, (decodeMessage bytes).getD (.receptionDrop dropped)])
                ∧ (stops → ∃ dropped, r.2 = [failure, .receptionDrop dropped])))
          ∧ (level ≠ sent.getD n true → n = 0 →
              r.1.incoming = some [] ∧ r.2 = .attemptError :: if ones = 12 then [.lineIdle] else []))

/-- Whole messages as bits: a start bit of 0, eight bits with the most significant first and a stop bit of 1 for each
byte. From an idle line the bits of a message and the 1 after them bring its command at that 1; the bits of a message
with further bytes after its check bring a drop; on a line that is not idle they bring nothing; and an attempt whose
bits all read back as sent completes at the last of them (R19, R20, R23, R25, R36). That a message arrives at the 1 after
its check is the model's choice (log 34). -/
def Obligations.MessageBitsReadAndSent : Prop :=
  ∀ (i : Instr) (bytes more : List Byte) (a : Attempt) (own : Nat) (l : Link),
    (messageBits bytes = bytes.flatMap fun b => false :: (List.range 8).map (fun k => b.getLsbD (7 - k)) ++ [true])
    ∧ (i.wf = true → encodeMessage i = some bytes → l.attempt = none → l.incoming = none →
        let r := l.readLevels own (messageBits bytes ++ [true])
        let stopped := { l with line := r.1.line, ones := r.1.ones, incoming := none }
        r.1 = stopped ∧ r.1.ones < 12
        ∧ (l.line = .idle → r.1.line = .busy ∧ r.2 = [i])
        ∧ (l.line ≠ .idle → r.1.line = l.line ∧ r.2 = [])
        ∧ (r.1.readLevels own (List.replicate (12 - r.1.ones) true)).2 = [.lineIdle]
        ∧ (l.line = .idle → more ≠ [] →
            (l.readLevels own (messageBits (bytes ++ more) ++ [true])).2 = [.receptionDrop (bytes ++ more)]))
    ∧ (l.attempt = some a → l.incoming = some [] →
        let r := l.readLevels own (messageBits (a.content.message own))
        r.1 = { l with ones := r.1.ones, incoming := some (messageBits (a.content.message own)) }
        ∧ r.2 = [.attemptComplete])

/-! ## Rules of computation -/

/-- The linearisation table; the filter, which a first sample seeds and whose step is an eighth of the gap, at least one
sixteenth, and never passes the sample; and the outside temperature selected, OWN, PEERS, HELD or DEFAULT, in that order
(R3, R5, R6, R14, R16). That HELD keeps the value last selected, in whichever order two events are taken, is the model's
reading (log 38). -/
def Obligations.FilterAndOutsideSelection : Prop :=
  Config.breakpoints =
      [-800, -640, -512, -416, -336, -272, -216, -168, -120, -80, -40, 0, 40, 72, 104, 136, 168, 200, 232, 264, 296,
       328, 360, 400, 440, 480, 528, 584, 648, 728, 832, 976, 1200]
  ∧ (∀ (t : Int), filtered none t = t)
  ∧ (∀ (v t : Int), let w := filtered (some v) t
      (v = t → w = v) ∧ (v < t → w = v + max 1 ((t - v) / 8) ∧ w ≤ t)
      ∧ (t < v → w = v - max 1 ((v - t) / 8) ∧ t ≤ w))
  ∧ ∀ (fitted : Bool) (table : List Entry) (x : Sensing),
    let y := selectOutside fitted table x
    let own := fitted = true ∧ x.fresh.state = .good ∧ x.fresh.filtered.isSome
    y = { x with outside := y.outside, source := y.source, selected := y.selected }
    ∧ (own → y.source = .own ∧ some y.outside = x.fresh.filtered ∧ y.selected = true)
    ∧ (¬own → outsideHeard table ≠ [] →
        y.source = .peers ∧ some y.outside = median (outsideHeard table) ∧ y.selected = true)
    ∧ (¬own → outsideHeard table = [] → x.selected = true →
        y.source = .held ∧ y.outside = x.outside ∧ y.selected = true)
    ∧ (¬own → outsideHeard table = [] → x.selected = false →
        y.source = .default ∧ y.outside = 320 ∧ y.selected = false)

/-- The median of the outside temperatures that LIVE entries carry, at most fifteen, is the one in place (n - 1) div 2
of the ascending order: one of them, with at most that many below it and more than that many no greater (R15). -/
def Obligations.MedianOfLiveOutsideTemperatures : Prop :=
  ∀ (s : State), s.Sound →
    let ts := (s.peers.table.filter (·.state = .live)).filterMap (·.outside)
    let place := (ts.length - 1) / 2
    ts.length ≤ 15
    ∧ (ts ≠ [] →
        ∃ m ∈ ts, median (outsideHeard s.peers.table) = some m ∧ ts.countP (· < m) ≤ place
          ∧ place < ts.countP (· ≤ m))
    ∧ (∀ x y, ts = [x, y] → median (outsideHeard s.peers.table) = some (min x y))

/-- The weather compensation (R63). -/
def Obligations.WeatherCompensation : Prop :=
  ∀ (outside : Int), let summer := summerCompensation outside; let winter := winterCompensation outside
    (448 ≤ outside → summer = min 48 ((outside - 448) / 4)) ∧ (outside < 448 → summer = 0)
    ∧ (outside < 0 → winter = min 16 ((0 - outside) / 8)) ∧ (0 ≤ outside → winter = 0)
    ∧ (summer = 0 ∨ winter = 0)
    ∧ (0 < summer ↔ 452 ≤ outside) ∧ (summer = 48 ↔ 640 ≤ outside)
    ∧ (0 < winter ↔ outside ≤ -8) ∧ (winter = 16 ↔ outside ≤ -128)
    ∧ (outside = 320 → summer = 0 ∧ winter = 0)

/-- The proportional term is truncated toward zero, so that errors of opposite sign give terms of opposite sign (R68). -/
def Obligations.ProportionalTermMirrors : Prop :=
  ∀ (kp : Nat) (error degrees : Int), let p := proportional kp error
    p.natAbs = kp * error.natAbs / 16 ∧ (0 ≤ error → 0 ≤ p) ∧ (error ≤ 0 → p ≤ 0)
    ∧ proportional kp (-error) = -p ∧ proportional 0 error = 0
    ∧ proportional 200 (16 * degrees) = 200 * degrees ∧ proportional 200 (-29) = -362

/-- The split of heat and cooling demand: R74's table, the stages of a cold coolant, and the demands they bring (R74,
R75, R76). -/
def Obligations.HeatSplit : Prop :=
  ∀ (cfg : Settings) (coolant : CoolantState) (u : Int) (r : DemandRecord),
    cfg.InRange → -1000 ≤ u → u ≤ 1000 →
    let d := splitDemand cfg coolant u r
    let h := d.heat
    let w := d.stagesWanted
    d.u = u ∧ (h : Int) = max u 0 ∧ (d.cool : Int) = max (-u) 0 ∧ (h = 0 ∨ d.cool = 0)
    ∧ (coolant = .hot → cfg.coolantShare = 0 →
        d.coolantTarget = 0 ∧ h * cfg.stages ≤ 1000 * w ∧ 1000 * w < h * cfg.stages + 1000)
    ∧ (coolant = .hot → 0 < cfg.coolantShare → cfg.coolantShare < 1000 → h ≤ cfg.coolantShare →
        d.coolantTarget = min 1000 (h * 1000 / cfg.coolantShare) ∧ w = 0)
    ∧ (coolant = .hot → 0 < cfg.coolantShare → cfg.coolantShare < 1000 → cfg.coolantShare < h →
        d.coolantTarget = 1000
        ∧ (h - cfg.coolantShare) * cfg.stages ≤ (1000 - cfg.coolantShare) * w
        ∧ (1000 - cfg.coolantShare) * w < (h - cfg.coolantShare) * cfg.stages + (1000 - cfg.coolantShare))
    ∧ (coolant = .hot → cfg.coolantShare = 1000 → d.coolantTarget = h ∧ w = 0)
    ∧ (coolant = .cold → d.coolantTarget = 0 ∧ h * cfg.stages ≤ 1000 * w ∧ 1000 * w < h * cfg.stages + 1000)
    ∧ w ≤ cfg.stages ∧ d.dEl = w * cfg.stagePower ∧ d.dEl ≤ 6000
    ∧ d.dC = d.cool * cfg.coolRating / 1000 ∧ d.dC ≤ cfg.coolRating
    ∧ d.spEff = r.spEff ∧ d.tRet = r.tRet ∧ d.source = r.source ∧ d.error = r.error ∧ d.iAcc = r.iAcc

/-- The control pass: VENT, hold pass, or setpoint, dead band, integrator and output (R64, R65, R66, R67, R69, R70,
R71, R72, R73). -/
def Obligations.ControlPassRecord : Prop :=
  ∀ (x : PassInputs) (r : DemandRecord),
    let d := controlPass x r
    let sum := x.setpoint + x.cfg.offset + summerCompensation x.outside + winterCompensation x.outside
    let sp := max 256 (min 464 (if x.governing = .precond then x.setpoint else sum))
    let band : Int := if x.governing = .economy then x.cfg.deadBand + 32 else x.cfg.deadBand
    let held := x.ownReturn = none ∧ x.neighbours = []
    let used : Int := x.ownReturn.getD (x.neighbours.sum.tdiv x.neighbours.length)
    let source := if x.ownReturn.isSome then ReturnSource.own else .adjacent
    let e := sp - used
    let reduced := if 0 ≤ e then max 0 (e - band) else min 0 (e + band)
    let frozen := x.governing = .vent ∨ x.governing = .boost ∨ x.governing = .door
    let blocked := (0 < reduced ∧ (r.u = 1000 ∨ x.heatLimited = true))
      ∨ (reduced < 0 ∧ (r.u = -1000 ∨ x.coolLimited = true))
    let acc := max (-60000) (min 60000 (r.iAcc + ((x.cfg.ki : Int) * reduced).tdiv 16))
    let pi := max (-1000) (min 1000 (((x.cfg.kp : Int) * reduced).tdiv 16 + d.iAcc.tdiv 60))
    (x.governing ≠ .vent → held → d = { r with source := .held })
    ∧ (x.governing ≠ .vent → ¬held →
        d.spEff = some sp ∧ d.tRet = some used ∧ d.source = source ∧ d.error = reduced
        ∧ d.iAcc = (if frozen ∨ blocked then r.iAcc else acc)
        ∧ d.u = (if x.governing = .boost ∧ 0 < reduced then 1000
                 else if x.governing = .boost ∧ reduced < 0 then -1000 else pi)
        ∧ d = splitDemand x.cfg x.coolant d.u d)
    ∧ (x.governing = .vent →
        d.spEff = some sp ∧ d.tRet = (if held then r.tRet else some used)
        ∧ d.source = (if held then .held else source) ∧ d.error = 0 ∧ d.iAcc = r.iAcc
        ∧ d.u = 0 ∧ d.heat = 0 ∧ d.cool = 0 ∧ d.coolantTarget = 0 ∧ d.stagesWanted = 0 ∧ d.dEl = 0 ∧ d.dC = 0)

/-- Budgets in use, allowances and share-limited flags (R82, R88, R89, R90): an allowance never exceeds the headroom
or the budget. That a heat side with no demand is not share-limited where Ps is 0 is the model's reading (log 15). -/
def Obligations.AllowanceWithinBudgets : Prop :=
  ∀ (x : ShareInputs), x.demandEl = x.wanted * x.cfg.stagePower →
    let r := allowance x
    let rounded := min x.wanted (min ((r.shareEl + x.cfg.stagePower / 2) / x.cfg.stagePower)
      (r.headEl / x.cfg.stagePower))
    (x.peers.duplicate.isSome → r.budgetEl = x.cfg.blindBudget ∧ r.budgetC = x.cfg.blindCooling)
    ∧ (x.peers.duplicate = none →
        r.budgetEl = (if x.peers.budget.silence.isSome then x.peers.budget.heard.getD 0 else x.cfg.blindBudget)
        ∧ r.budgetC = (if x.peers.plant.silence = none then x.cfg.blindCooling
                       else if x.peers.plant.fault = true then 0 else x.peers.plant.capacity.getD 0))
    ∧ (x.cfg.stagePower = 0 → r.nEl = 0)
    ∧ (0 < x.cfg.stagePower → x.hold = none → r.nEl = rounded)
    ∧ (0 < x.cfg.stagePower → x.hold.isSome → r.nEl = min x.cap rounded)
    ∧ (x.frost = .clear → r.aC = min r.shareC (min r.headC x.demandC)) ∧ (x.frost = .frost → r.aC = 0)
    ∧ r.nEl * x.cfg.stagePower ≤ r.budgetEl ∧ r.aC ≤ min x.demandC r.budgetC
    ∧ (r.heatLimited = true ↔ 0 < x.demandEl ∧ r.nEl < x.wanted) ∧ (r.coolLimited = true ↔ r.aC < x.demandC)
    ∧ r.hold = x.hold ∧ r.cap = x.cap

/-- The weighted sums over the own number and every other number to Z, and the shares in proportion (R42, R83, R84,
R85). -/
def Obligations.SharesInProportion : Prop :=
  ∀ (x : ShareInputs),
    let r := allowance x
    let g := if x.governing = .door then 2 else 1
    let others := (List.range' 1 x.cfg.zones).filter (· ≠ x.own)
    let counted := fun (n : Nat) => (entryFor n x.peers.table).filter (·.state ≠ .lost)
    let weight := fun (e : Entry) => if e.priority = true then 2 else 1
    let termEl := fun (n : Nat) => ((counted n).map fun e => weight e * e.dEl).getD x.cfg.reserveEl
    let termC := fun (n : Nat) => ((counted n).map fun e => weight e * e.dC).getD x.cfg.reserveC
    r.weightedEl = g * x.demandEl + (others.map termEl).sum ∧ r.weightedC = g * x.demandC + (others.map termC).sum
    ∧ (x.demandEl = 0 → r.shareEl = 0) ∧ (x.demandC = 0 → r.shareC = 0)
    ∧ (0 < x.demandEl →
        r.shareEl * r.weightedEl ≤ r.budgetEl * (g * x.demandEl)
        ∧ r.budgetEl * (g * x.demandEl) < (r.shareEl + 1) * r.weightedEl ∧ r.shareEl ≤ r.budgetEl)
    ∧ (0 < x.demandC →
        r.shareC * r.weightedC ≤ r.budgetC * (g * x.demandC)
        ∧ r.budgetC * (g * x.demandC) < (r.shareC + 1) * r.weightedC ∧ r.shareC ≤ r.budgetC)

/-- The headroom is the budget less the claims of every LIVE and STALE entry, at least 0, whatever the own demand and
claim (R86). -/
def Obligations.HeadroomLeavesHeardClaims : Prop :=
  ∀ (s : State) (governing : Mode) (wanted demandEl demandC : Nat), s.Sound →
    let r := allowance { s.shareInputs with
      governing := governing, wanted := wanted, demandEl := demandEl, demandC := demandC }
    let counted := s.peers.table.filter (·.state ≠ .lost)
    let claimsEl := (counted.map (·.cEl)).sum
    let claimsC := (counted.map (·.cC)).sum
    (r.headEl : Int) = max 0 (r.budgetEl - claimsEl) ∧ (r.headC : Int) = max 0 (r.budgetC - claimsC)
    ∧ claimsEl ≤ 90000 ∧ claimsC ≤ 3750

/-- The settled configuration: every field in its range, from the record where its check is good and by default where
it is not, with both flags (R157, R168, R179, 10.2). What the three yes-or-no settings are by default is left free
(log 9). -/
def Obligations.ConfigurationSettled : Prop :=
  ∀ (own : Nat) (r : List Byte), 1 ≤ own → own ≤ 16 →
    let l := settleConfiguration own r
    let good := 64 ≤ r.length ∧ wordOf (r.getD 62 0#8) (r.getD 63 0#8) = check (r.take 62)
    let entry := max 220 (min 260 (wordAt r 30))
    let leaving := max 225 (min 300 (wordAt r 32))
    let near := fun (x : Int) => max (-32) (min 32 x)
    let yes := fun (k : Nat) => decide (byteAt r k ≠ 0)
    let p := wordAt r 1
    l.cfg.InRange ∧ own ≤ l.cfg.zones
    ∧ (¬good →
        l.cfgDefault = true ∧ (l.cfgClamped = true ↔ 2 < own)
        ∧ l.cfg = { Config.defaults l.cfg.doorZone l.cfg.followAdjacent l.cfg.freshFitted with zones := max 2 own })
    ∧ (good →
        l.cfgDefault = false
        ∧ (l.cfgClamped = true ↔ l.cfg ≠ recordFields r ∨ 1 < byteAt r 3 ∨ 1 < byteAt r 4 ∨ 1 < byteAt r 5)
        ∧ l.cfg =
          { zones := max own (max 2 (min 16 (byteAt r 0)))
            period := if p ≤ 375 then 250 else if p ≤ 750 then 500 else 1000
            stages := min 3 (byteAt r 6), stagePower := min 20 (byteAt r 7) * 100, coolRating := min 250 (byteAt r 8)
            coolantShare := min 1000 (wordAt r 9), offset := near (signedAt r 11), kp := byteAt r 12
            ki := byteAt r 13, deadBand := min 16 (byteAt r 14), fanMin := min 1000 (wordAt r 15)
            fanHeatMin := min 1000 (wordAt r 17), ventSpeed := min 1000 (wordAt r 19)
            minFresh := min 1000 (wordAt r 21), reserveEl := min 6000 (wordAt r 23)
            reserveC := min 250 (byteAt r 25), blindBudget := min 60000 (wordAt r 26)
            blindCooling := min 4000 (wordAt r 28), supplyEntry := entry
            supplyExit := if leaving < entry + 5 then entry + 10 else leaving
            trimRet := near (signedAt r 34), trimDischarge := near (signedAt r 35), trimCoil := near (signedAt r 36)
            trimFresh := near (signedAt r 37), doorZone := yes 3, followAdjacent := yes 4, freshFitted := yes 5 })

/-! ## Beginnings and the life cycle -/

/-- COLD_START and PIN_RESET: the straps give the own number, the station reads its configuration and every block stands
at its first value. A cold start clears the trip machine; a release under power is a pin reset, which keeps the trip
machine's state, cooldown and trip list; one that ends a hold from before the supply rose is part of that cold start; one
without power changes the pin alone (R17, R36, R57, R78, R95, R120, R148, R154, R165, R167, R171, R178, R180). Where the
RESET pin is held through power-up, the read waits and the straps of the release stand: the model's reading (log 13). -/
def Obligations.ColdStartAndPinResetBegin : Prop :=
  ∀ (straps : BitVec 4) (s : State),
    let own := 8 * bit (straps.getLsbD 3) + 4 * bit (straps.getLsbD 2) + 2 * bit (straps.getLsbD 1)
      + bit (straps.getLsbD 0) + 1
    (∃ t, exec (.coldStart straps) s = .next t
      ∧ t.control.Begun own .cold
      ∧ t.control.read = (if s.pins.resetLow = true then none else some 100)
      ∧ t.AtFirstValues t.cfg.stages ∧ t.ClearsTrip
      ∧ t.pins = { s.pins with powered := true, holdIsCold := s.pins.resetLow })
    ∧ (let partOfCold := s.pins.resetLow = true ∧ s.pins.holdIsCold = true
      ∃ t, exec (.pinReset straps) s = .next t
        ∧ (s.pins.powered = true → ¬partOfCold → t.control.Begun own .pin ∧ s.KeepsTrip t)
        ∧ (s.pins.powered = true → partOfCold → t.control.Begun own .cold ∧ t.ClearsTrip)
        ∧ (s.pins.powered = true →
            t.control.read = some 100 ∧ t.AtFirstValues t.cfg.stages
            ∧ t.pins = { s.pins with resetLow := false, holdIsCold := false })
        ∧ (s.pins.powered = false → t = { s with pins := { s.pins with resetLow := false } }))

/-- RESET_PIN_LOW and LOGIC_SUPPLY_FALL: the station stops at the values after a pin reset or a cold start, and no
read runs; the own number and the start cause stand until the next beginning (R154, R167; log 23). A RESET pin that is
low already, or a supply that is down already, changes nothing: the model's reading (log 19). -/
def Obligations.StationStops : Prop :=
  ∀ (s : State),
    (∃ t, exec .resetPinLow s = .next t
      ∧ (s.pins.resetLow = true → t = s)
      ∧ (s.pins.resetLow = false → t.pins = { s.pins with resetLow := true })
      ∧ (s.pins.resetLow = false → s.pins.powered = false → t = { s with pins := t.pins })
      ∧ (s.pins.resetLow = false → s.pins.powered = true →
          t.control.Begun s.own s.control.cause ∧ t.control.read = none ∧ t.AtFirstValues t.cfg.stages
          ∧ s.KeepsTrip t))
    ∧ (∃ t, exec .logicSupplyFall s = .next t
      ∧ (s.pins.powered = false → t = s)
      ∧ (s.pins.powered = true →
          t.pins = { s.pins with powered := false, holdIsCold := false }
          ∧ t.control.Begun s.own s.control.cause ∧ t.control.read = none ∧ t.AtFirstValues t.cfg.stages
          ∧ t.ClearsTrip))

/-- CONFIGURATION_READ_END: the values in use are settled, the listen period begins, the door, the heat-limit contact
and the ticks are taken up, and the step-up delay starts (R101, R120, R124, R140, R143, R150, R154, R161, R167, R168).
A short read ends when its time is up (log 26); the ticks' phase is the model's choice (log 16). That the time left
passes first is the model's choice (log 2). -/
def Obligations.ConfigurationReadEnds : Prop :=
  ∀ (bytes : List Byte) (s : State), s.Sound → s.awake = true → s.control.reading = true →
    let u := if bytes.length < 64 then s.elapse (s.control.read.getD 0) else s
    let l := settleConfiguration s.own bytes
    let contactOpen := s.pins.contactOpen = true
    let watched := u.interlock.trip = .normal ∨ u.interlock.trip = .cooldown
    let recovers := u.interlock.trip = .tripped ∧ ¬contactOpen
    ∃ t, exec (.configurationReadEnd bytes) s = .next t
      ∧ t = { u with control := t.control, arbiter := t.arbiter, output := t.output, interlock := t.interlock }
      ∧ t.control = { u.control with
          cfg := l.cfg, cfgDefault := l.cfgDefault, cfgClamped := l.cfgClamped, phase := .listening,
          listen := some (2 * l.cfg.period), read := none }
      ∧ t.arbiter = { u.arbiter with
          dwell := if l.cfg.doorZone = true ∧ s.pins.doorOpen = true then some 1000 else none }
      ∧ t.output = { u.output with
          upDelay := some (3000 + 250 * s.own), fanTickIn := some 100, damperTickIn := some 1000 }
      ∧ t.interlock = { u.interlock with
          discharge := l.cfg.stages, ceiling := if u.interlock.trip = .normal then l.cfg.stages else 0
          openDwell := if contactOpen ∧ watched then some 100 else none
          trip := if recovers then .cooldown else u.interlock.trip
          cooldown := if recovers then some 60000 else u.interlock.cooldown }

/-- LISTEN_TIMER_EXPIRY: to STANDBY where the PANEL record is HEARD with OFF, to RUNNING otherwise; the first report's
time is fixed (R34, R169). That the entry to RUNNING can take more than one mode is the model's reading (log 14). That
the time left passes first is the model's choice (log 2). -/
def Obligations.ListenPeriodEnds : Prop :=
  ∀ (left : Nat) (s : State), s.Sound → s.control.listen = some left →
    let u := s.elapse left
    ∃ t, exec .listenTimerExpiry s = .next t
      ∧ t = { u with
          control := t.control, link := t.link, demand := t.demand, share := t.share, arbiter := t.arbiter,
          output := t.output }
      ∧ t.link = { u.link with firstIn := some (s.own * s.cfg.period / 16) }
      ∧ (if u.peers.panel.silence.isSome = true ∧ u.peers.panel.mode = .off then
          u.StandsBy t ∧ t.TakesTargets u.output
         else u.Runs t)

/-- RESTART_TAKES_EFFECT, where a restart is pending and its OK reply has left the REPLY slot: the station listens again;
what it knows of the coach, its samples, its trip machine and its configuration stay (R18, R36, R58, R78, R95, R121,
R149, R156, R158, R161, R165, R176). That a restart clears DUPLICATE and FROST without a recomputation of its own is the
model's reading (log 22), and so is that the events that let go of the OK hold the restart within them (log 6). -/
def Obligations.RestartTakesEffect : Prop :=
  ∀ (s : State), { s with control := { s.control with restartPending := false } }.Sound →
    s.control.restartPending = true → s.link.holdsRestartOk = false →
    ∃ t, exec .restartTakesEffect s = .next t ∧ s.RestartsFrom t

/-- The end of TEST at TEST_TIMER_EXPIRY and at END_TEST: entry to STANDBY with its standby levels (R79, R96, R122,
R144, R175, R178). That the time left passes first is the model's choice (log 2). -/
def Obligations.TestEndsInStandby : Prop :=
  ∀ (left : Nat) (target : Fin 32) (s : State),
    (s.control.test = some left →
      let u := s.elapse left
      ∃ t, exec .testTimerExpiry s = .next t
        ∧ t = { u with
            control := t.control, link := t.link, demand := t.demand, share := t.share, arbiter := t.arbiter,
            output := t.output }
        ∧ u.StandsBy t ∧ t.TakesTargets { u.output with evapPos := 0, coolantPos := 0 }
        ∧ u.link.UpkeptFrom t.link)
    ∧ (s.Judges target → s.control.state = .test →
      ∃ t, exec (.endTest target) s = .next t
        ∧ t = { s with
            control := t.control, link := t.link, demand := t.demand, share := t.share, arbiter := t.arbiter,
            output := t.output }
        ∧ s.StandsBy t ∧ t.TakesTargets { s.output with evapPos := 0, coolantPos := 0 }
        ∧ s.hears.link.AnsweredFrom { kind := .endTest, result := .ok, payload := [] } t.link)

/-! ## Samples -/

/-- TEMPERATURE_SAMPLE at its channel: class, conversion, filter, bad run and good run (R2, R3, R4, R5, R6, R7, R8,
R11); the other channels and the supply value stand. -/
def Obligations.TemperatureSampleTaken : Prop :=
  ∀ (ch : Channel) (code : Fin 1024) (s : State), s.Sound → s.acting = true →
    let c := s.sensing.channel ch
    let bad := code.val ≤ 15 ∨ 1008 ≤ code.val
    let kind := if code.val ≤ 15 then FaultKind.short else .open
    let low := Config.breakpoints.getD (code.val / 32) 0
    let high := Config.breakpoints.getD (code.val / 32 + 1) 0
    let trim := match ch with
      | .ret => s.cfg.trimRet | .discharge => s.cfg.trimDischarge | .coil => s.cfg.trimCoil | .fresh => s.cfg.trimFresh
    let sample := max (-640) (min 1360 (low + (high - low) * ((code.val % 32 : Nat) : Int) / 32 + trim))
    ∃ t, exec (.temperatureSample ch code) s = .next t
      ∧ t.sensing.channel ch =
        (if ch = .fresh ∧ s.cfg.freshFitted = false then c
         else if c.state = .good then
          if bad then
            if c.badRun = 4 then { c with state := .fault, badRun := 0, goodRun := 0, kind := kind }
            else { c with badRun := c.badRun + 1 }
          else { c with badRun := 0, filtered := some (filtered c.filtered sample) }
         else if bad then { c with goodRun := 0, kind := kind }
         else if c.goodRun = 19 then
          { state := .good, badRun := 0, goodRun := 0, kind := .none, filtered := some sample }
         else { c with goodRun := c.goodRun + 1 })
      ∧ (∀ other ∈ [Channel.ret, .discharge, .coil, .fresh], other ≠ ch →
          t.sensing.channel other = s.sensing.channel other)
      ∧ t.sensing.supply = s.sensing.supply ∧ s.link.UpkeptFrom t.link
      ∧ (ch = .ret → t = { s with sensing := s.sensing.setChannel .ret (t.sensing.channel ch), link := t.link })
      ∧ (ch = .fresh →
          t = { s with
            sensing := selectOutside s.cfg.freshFitted s.peers.table
              (s.sensing.setChannel .fresh (t.sensing.channel ch))
            link := t.link })

/-- The FROST machine. A COIL sample moves its cold and warm dwells and, with COIL in FAULT, enters FROST at once;
COLD_DWELL_EXPIRY enters FROST, with the evaporator shut and no cooling allowance, and WARM_DWELL_EXPIRY leaves it
(R88, R155, R156). That the time left passes first is the model's choice (log 2). -/
def Obligations.FrostMachineMoves : Prop :=
  ∀ (code : Fin 1024) (left : Nat) (s : State),
    (s.Sound → s.acting = true →
       ∃ t, exec (.temperatureSample .coil code) s = .next t
         ∧ let c := t.sensing.coil
           let cold := c.state = .good ∧ c.filtered.any (· < 16)
           let warm := c.state = .good ∧ c.filtered.any (64 < ·)
           let enters := s.interlock.frost = .clear ∧ c.state = .fault
           t = { s with
             sensing := s.sensing.setChannel .coil c, link := t.link, share := t.share, output := t.output,
             interlock := t.interlock }
           ∧ t.interlock = { s.interlock with
               frost := if enters then .frost else s.interlock.frost
               coldDwell :=
                 if s.interlock.frost = .clear ∧ cold then some (s.interlock.coldDwell.getD 10000) else none
               warmDwell :=
                 if s.interlock.frost = .frost ∧ warm then some (s.interlock.warmDwell.getD 60000) else none }
           ∧ (if enters then s.Recomputes { s.output with evapPos := 0 } t else t.share = s.share ∧ t.output = s.output)
           ∧ s.link.UpkeptFrom t.link)
    ∧ (let u := s.elapse left
      (s.interlock.coldDwell = some left →
        ∃ t, exec .coldDwellExpiry s = .next t
          ∧ t = { u with
              share := t.share, output := t.output, link := t.link,
              interlock := { u.interlock with frost := .frost, coldDwell := none } }
          ∧ u.Recomputes { u.output with evapPos := 0 } t ∧ t.share.aC = 0 ∧ u.link.UpkeptFrom t.link)
      ∧ (s.interlock.warmDwell = some left →
        ∃ t, exec .warmDwellExpiry s = .next t
          ∧ t = { u with
              share := t.share, output := t.output, link := t.link,
              interlock := { u.interlock with frost := .clear, warmDwell := none } }
          ∧ u.Recomputes u.output t ∧ u.link.UpkeptFrom t.link))

/-- The DISCHARGE ceiling. A DISCHARGE sample is judged hot, cool, between, unseeded or in FAULT; DROP_TIMER_EXPIRY
and RISE_TIMER_EXPIRY step the ceiling down and up (R159, R160). That the time left passes first is the model's choice
(log 2). -/
def Obligations.DischargeLimitMoves : Prop :=
  ∀ (code : Fin 1024) (left : Nat) (s : State),
    (s.Sound → s.acting = true →
       ∃ t, exec (.temperatureSample .discharge code) s = .next t
         ∧ let c := t.sensing.discharge
           let i := s.interlock
           let hot := c.state = .good ∧ c.filtered.any (880 < ·)
           let cool := c.state = .good ∧ c.filtered.any (· < 800)
           t = { s with
             sensing := s.sensing.setChannel .discharge c, link := t.link, output := t.output,
             interlock := { i with
               discharge := if c.state = .fault then min 1 s.cfg.stages
                 else if hot ∧ i.drop = none then i.discharge - 1 else i.discharge
               drop := if hot then some (i.drop.getD 10000) else none
               rise := if cool ∧ i.discharge < s.cfg.stages then some (i.rise.getD 30000) else none
               ceiling := t.interlock.ceiling } }
           ∧ s.HandsCeiling t ∧ s.link.UpkeptFrom t.link)
    ∧ (let u := s.elapse left
      (s.interlock.drop = some left → s.Sound →
        ∃ t, exec .dropTimerExpiry s = .next t
          ∧ t = { u with
              output := t.output, link := t.link,
              interlock := { u.interlock with
                discharge := u.interlock.discharge - 1, drop := some 10000, ceiling := t.interlock.ceiling } }
          ∧ u.HandsCeiling t ∧ u.link.UpkeptFrom t.link)
      ∧ (s.interlock.rise = some left → s.Sound →
        ∃ t, exec .riseTimerExpiry s = .next t
          ∧ t = { u with
              output := t.output, link := t.link,
              interlock := { u.interlock with
                discharge := u.interlock.discharge + 1
                rise := if u.interlock.discharge + 1 = s.cfg.stages then none else some 30000
                ceiling := t.interlock.ceiling } }
          ∧ u.HandsCeiling t ∧ u.link.UpkeptFrom t.link))

/-- The SUPPLY machine. SUPPLY_SAMPLE gives the supply value and moves the dwells; LOW_DWELL_EXPIRY enters SUPPLY_LOW,
where every stage comes off at once, and RECOVERY_DWELL_EXPIRY leaves it (R12, R131, R158, R163). That the time left
passes first is the model's choice (log 2). -/
def Obligations.SupplyMachineMoves : Prop :=
  ∀ (code : Fin 1024) (left : Nat) (s : State),
    (s.Sound → s.acting = true →
       let v := code.val * 400 / 1023
       let i := s.interlock
       ∃ t, exec (.supplySample code) s = .next t
         ∧ t = { s with
             sensing := { s.sensing with supply := some v }, link := t.link,
             interlock := { i with
               lowDwell := if i.supply = .normal ∧ v < s.cfg.supplyEntry then some (i.lowDwell.getD 2000) else none
               recovery := if i.supply = .low ∧ s.cfg.supplyExit < v then some (i.recovery.getD 10000) else none } }
         ∧ s.link.UpkeptFrom t.link)
    ∧ (let u := s.elapse left
      (s.interlock.lowDwell = some left → s.Sound →
        ∃ t, exec .lowDwellExpiry s = .next t
          ∧ t = { u with
              output := t.output, link := t.link,
              interlock := { u.interlock with supply := .low, lowDwell := none, ceiling := 0 } }
          ∧ t.output.stagesOn = 0 ∧ t.output.stageTarget = 0 ∧ u.HandsCeiling t ∧ u.link.UpkeptFrom t.link)
      ∧ (s.interlock.recovery = some left → s.Sound →
        ∃ t, exec .recoveryDwellExpiry s = .next t
          ∧ t = { u with
              output := t.output, link := t.link,
              interlock := { u.interlock with
                supply := .normal, recovery := none
                ceiling := if u.interlock.trip = .normal then u.interlock.discharge else 0 } }
          ∧ u.HandsCeiling t ∧ u.link.UpkeptFrom t.link))

/-! ## The line and report timing -/

/-- LINE_IDLE and ATTEMPT_BEGIN: an attempt of the REPORT, or else of the REPLY, begins on an idle line with no
attempt in progress, and not otherwise (R19, R20, R28, R29, R31). -/
def Obligations.AttemptsBeginOnIdleLine : Prop :=
  ∀ (s : State), s.Sound → s.awake = true →
    exec .lineIdle s = .next { s with link := { s.link with
      line := .idle, incoming := if s.link.attempt = none then none else s.link.incoming } }
    ∧ ∃ t, exec .attemptBegin s = .next t
      ∧ t = { s with link := t.link }
      ∧ (∀ r ∈ s.link.reportSlot, s.link.line = .idle → s.link.attempt = none →
          t.link = { s.link with
            line := .busy, incoming := some [], attempt := some { content := .report r, live := true } })
      ∧ (∀ r ∈ s.link.replySlot, s.link.line = .idle → s.link.attempt = none → s.link.reportSlot = none →
          t.link = { s.link with
            line := .busy, incoming := some [], attempt := some { content := .reply r, live := true } })
      ∧ (s.link.line ≠ .idle ∨ s.link.attempt.isSome ∨ (s.link.reportSlot = none ∧ s.link.replySlot = none) →
          t = s)

/-- The ends of an attempt. ATTEMPT_COMPLETE: the sent content leaves its slot; a completed report restarts the report
clock, and a change noticed meanwhile makes an early report due a quarter period on. CONTENTION_LOSS and
ATTEMPT_ERROR: the content waits for the next idle with one failed attempt more, and is discarded at the sixteenth. A
content that has left its slot counts nothing. Where the OK reply to RESTART has now left, the restart takes effect (R21,
R22, R23, R24, R28, R30, R31, R33, R35, R36, R176). That a discard drops the change noticed during its attempt is the
model's reading (log 18), and so is the restart within the event (log 6). -/
def Obligations.AttemptsEnd : Prop :=
  ∀ (a : Attempt) (s : State), s.Sound → s.awake = true → s.link.attempt = some a →
    (∃ u t : State, exec .attemptComplete s = .next t ∧ u.SettlesRestart t
       ∧ u = { s with link := u.link }
       ∧ (a.live = true → a.content.isReport = true →
           u.link = { s.link with
             attempt := none, line := .busy, incoming := none, reportSlot := none, reportCount := 0,
             sinceReport := some 0, sinceDiscard := none, changed := false,
             earlyIn := if s.link.changed = true then some (s.cfg.period / 4) else none })
       ∧ (a.live = true → a.content.isReport = false →
           u.link = { s.link with
             attempt := none, line := .busy, incoming := none, replySlot := none, replyCount := 0 })
       ∧ (a.live = false → u.link = { s.link with attempt := none, line := .busy, incoming := none }))
    ∧ (∃ u t : State, exec .contentionLoss s = .next t ∧ exec .attemptError s = .next t ∧ u.SettlesRestart t
        ∧ u = { s with link := u.link }
        ∧ (a.live = true → a.content.isReport = true →
            u.link = { s.link with
              attempt := none, line := .busy, changed := false,
              reportSlot := if s.link.reportCount = 15 then none else some s.report
              reportCount := if s.link.reportCount = 15 then 0 else s.link.reportCount + 1
              sinceDiscard := if s.link.reportCount = 15 then some 0 else s.link.sinceDiscard })
        ∧ (a.live = true → a.content.isReport = false →
            u.link = { s.link with
              attempt := none, line := .busy,
              replySlot := if s.link.replyCount = 15 then none else s.link.replySlot
              replyCount := if s.link.replyCount = 15 then 0 else s.link.replyCount + 1 })
        ∧ (a.live = false → u.link = { s.link with attempt := none, line := .busy }))

/-- REPORT_DUE, EARLY_REPORT_DUE and FIRST_REPORT_DUE fill an empty REPORT slot with the content of that moment; the
periodic one falls due P, or in STANDBY 4P, after the last completion or the discard that followed it (R28, R30, R31,
R32, R33, R34, R35). That the time left passes first is the model's choice (log 2). -/
def Obligations.ReportsFallDue : Prop :=
  ∀ (left : Nat) (s : State), s.Sound → s.link.reportSlot = none → s.control.state ≠ .starting →
    let u := s.elapse left
    let p := if s.control.state = .standby then 4 * s.cfg.period else s.cfg.period
    let since := if s.link.sinceDiscard.isSome then s.link.sinceDiscard else s.link.sinceReport
    let filled := { u with link := { u.link with
      reportSlot := some u.report, reportCount := 0, firstIn := none, earlyIn := none } }
    (since.isSome → left = p - since.getD 0 → exec .reportDue s = .next filled)
    ∧ (s.link.earlyIn = some left → exec .earlyReportDue s = .next filled)
    ∧ (s.link.firstIn = some left → exec .firstReportDue s = .next filled)

/-- The content of a REPORT (R10, R32, R56, R101, R164). -/
def Obligations.ReportContent : Prop :=
  ∀ (s : State), s.Sound → s.control.state ≠ .starting →
    let r := s.report
    let good := fun (c : ChannelData) => if c.state = .good then c.filtered else none
    (r.state = .running ↔ s.control.state = .running) ∧ (r.state = .standby ↔ s.control.state = .standby)
    ∧ (r.state = .test ↔ s.control.state = .test)
    ∧ r.level = s.arbiter.governing ∧ (r.priority = true ↔ s.arbiter.governing = .door)
    ∧ (r.door = true ↔ s.control.state = .running ∧ s.arbiter.ownDoor = true)
    ∧ 100 * r.dEl.toNat = s.demand.record.dEl ∧ r.dC.toNat = s.demand.record.dC
    ∧ 100 * r.cEl.toNat = (s.output.stagesOn
        + if s.output.seq = .waiting ∨ s.output.seq = .steppingUp then 1 else 0) * s.cfg.stagePower
    ∧ r.cC.toNat = s.output.evapPos * s.cfg.coolRating / 1000
    ∧ r.ret.map BitVec.toInt = good s.sensing.ret ∧ r.outside.map BitVec.toInt = good s.sensing.fresh
    ∧ r.flags =
      { retFault := s.sensing.ret.state = .fault, disFault := s.sensing.discharge.state = .fault
        coilFault := s.sensing.coil.state = .fault, freshFault := s.sensing.fresh.state = .fault
        tripped := s.interlock.trip = .tripped ∨ s.interlock.trip = .cooldown
        locked := s.interlock.trip = .locked, frost := s.interlock.frost = .frost
        supplyLow := s.interlock.supply = .low, disLimit := s.interlock.discharge < s.cfg.stages
        cfgDefault := s.control.cfgDefault, cfgClamped := s.control.cfgClamped
        duplicate := s.peers.duplicate ≠ none, panelSilent := s.peers.panel.silence = none
        budgetBlind := s.peers.budget.silence = none, plantBlind := s.peers.plant.silence = none }

/-- A change of the governing mode, the electric claim, the door flag or the flag set brings a report: it is noted where
one is being sent, and otherwise a report is due or waiting already, or one falls due a quarter period after the last
completed report, or after R35's discard where none has completed, or at once where that time is past or there is no such
time. Nothing but such a change or a completed attempt brings an early report (R30, R33, R34, R35). -/
def Obligations.EarlyReportsFollowChanges : Prop :=
  ∀ (c : Instr) (s : State), ∀ t, exec c s = .next t →
    let changes := t.arbiter.governing ≠ s.arbiter.governing ∨ t.electricClaim ≠ s.electricClaim
      ∨ t.doorFlag ≠ s.doorFlag ∨ t.flags ≠ s.flags
    let period := if t.control.state = .standby then 4 * t.cfg.period else t.cfg.period
    let lately := if t.link.sinceReport.isSome then t.link.sinceReport else t.link.sinceDiscard
    let latest := if t.link.sinceDiscard.isSome then t.link.sinceDiscard else t.link.sinceReport
    let wait := if lately.isSome then t.cfg.period / 4 - lately.getD 0 else 0
    (changes → s.control.state ≠ .starting → t.control.state ≠ .starting →
      (t.link.sendingReport = true ∧ t.link.changed = true) ∨ t.link.reportSlot.isSome ∨ t.link.firstIn.isSome
        ∨ (s.link.earlyIn.isSome ∧ t.link.earlyIn.isSome) ∨ (latest.isSome ∧ period - latest.getD 0 ≤ wait)
        ∨ t.link.earlyIn = some wait)
    ∧ (s.link.earlyIn = none → t.link.earlyIn.isSome →
        (changes ∨ c = .attemptComplete) ∧ t.link.earlyIn = some wait)

/-- Messages that are not taken: RECEPTION_DROP, a request to another station, and, before the configuration is read,
every message but a request: the message ends, the line is busy, and nothing else changes. A station that has read no
idle line since its beginning, or that is held in reset or has no supply, takes in no message at all (R19, R25, R27, R36,
R167). -/
def Obligations.MessagesPassedOver : Prop :=
  ∀ (c : Instr) (s : State),
    s.hears = { s with link := { s.link with
      line := .busy, incoming := if s.link.attempt = none then none else s.link.incoming } }
    ∧ (s.awake = true → s.link.line ≠ .unread →
        (∃ bytes, c = .receptionDrop bytes)
          ∨ ((requestOfCommand c).any fun q => decide (q.2.val ≠ s.own)) = true
          ∨ (isArrival c = true ∧ s.control.reading = true) →
        exec c s = .next s.hears)
    ∧ (s.awake = false ∨ s.link.line = .unread →
        (∃ bytes, c = .receptionDrop bytes) ∨ (requestOfCommand c).isSome ∨ isArrival c = true →
        exec c s = .next s)

/-! ## Arrivals -/

/-- BUDGET_ARRIVAL and BUDGET_TIMEOUT; PLANT_ARRIVAL and PLANT_TIMEOUT, with the coolant state's band (R48, R51, R52,
R53, R54, R55, R80). That budgets and capacities are unsigned and temperatures signed is the model's reading (log 27).
That the time left passes first is the model's choice (log 2). -/
def Obligations.SourcesHeardAndSilent : Prop :=
  ∀ (units capacity coolant : Word) (fault : Bool) (left : Nat) (s : State),
    ((s.Hears →
         ∃ t, exec (.budgetArrival units) s = .next t
           ∧ t = { s with
               peers := { s.peers with budget := { heard := some (min 600 units.toNat * 100), silence := some 5000 } }
               share := t.share, output := t.output, link := t.link }
           ∧ s.Recomputes s.output t ∧ s.hears.link.UpkeptFrom t.link)
       ∧ (s.peers.budget.silence = some left →
         let u := s.elapse left
         ∃ t, exec .budgetTimeout s = .next t
           ∧ t = { u with
               peers := { u.peers with budget := { u.peers.budget with silence := none } }
               share := t.share, output := t.output, link := t.link }
           ∧ u.Recomputes u.output t ∧ u.link.UpkeptFrom t.link))
    ∧ ((s.Hears →
          let temperature := max (-640) (min 1360 coolant.toInt)
          ∃ t, exec (.plantArrival capacity coolant fault) s = .next t
            ∧ t = { s with
                peers := { s.peers with
                  plant := { capacity := some (min 4000 capacity.toNat), coolant := some temperature, fault := fault,
                             silence := some 5000 }
                  coolant := if 960 ≤ temperature then .hot else if temperature < 880 then .cold else s.peers.coolant }
                share := t.share, output := t.output, link := t.link }
            ∧ s.Recomputes s.output t ∧ s.hears.link.UpkeptFrom t.link)
        ∧ (s.peers.plant.silence = some left →
          let u := s.elapse left
          ∃ t, exec .plantTimeout s = .next t
            ∧ t = { u with
                peers := { u.peers with plant := { u.peers.plant with silence := none }, coolant := .cold }
                share := t.share, output := t.output, link := t.link }
            ∧ u.Recomputes u.output t ∧ u.link.UpkeptFrom t.link))

/-- PANEL_ARRIVAL and PANEL_TIMEOUT: the record, the mode it ends and raises, and the station state it moves (R48,
R49, R50, R99, R117, R166, R170). That the arbiter acts before station control (log 17), that an entry to RUNNING can
take a panel mode and DOOR in one event (log 14) and that it leaves the coolant valve where TEST had it (log 24) are the
model's readings. That the time left passes first is the model's choice (log 2). -/
def Obligations.PanelHeardAndSilent : Prop :=
  ∀ (mode : PanelMode) (setpoint : Word) (left : Nat) (s : State), s.Sound →
    (s.Hears →
      let old := s.peers.panel
      let st := s.control.state
      let v := { s with peers := { s.peers with panel :=
        { mode := mode, setpoint := max 272 (min 432 setpoint.toInt), silence := some 30000 } } }
      let stops := st = .running ∧ mode = .off ∧ (old.mode ≠ .off ∨ old.silence = none)
      let starts := (st = .standby ∨ st = .test) ∧ mode ≠ .off ∧ mode ≠ old.mode
      let ended := if old.mode = .economy then s.arbiter.finish .economy
        else if old.mode = .vent then s.arbiter.finish .vent else s.arbiter
      ∃ t, exec (.panelArrival mode setpoint) s = .next t
        ∧ t = { v with
            control := t.control, demand := t.demand, share := t.share, arbiter := t.arbiter, output := t.output,
            link := t.link }
        ∧ s.hears.link.UpkeptFrom t.link
        ∧ (stops → v.StandsBy t
            ∧ t.TakesTargets { (v.withMode ended).output with evapPos := 0, coolantPos := 0 }
            ∧ t.output.fanPos = s.output.fanPos ∧ t.output.damperPos = s.output.damperPos)
        ∧ (starts → v.Runs t)
        ∧ (¬stops → ¬starts → t.control = s.control ∧ t.demand = s.demand ∧ s.HandsMode t)
        ∧ (st = .running → ¬stops →
            t.arbiter = if mode = old.mode then s.arbiter
              else if mode = .economy then ended.raise .economy
              else if mode = .vent then ended.raise .vent else ended)
        ∧ (st ≠ .running → ¬starts → t.arbiter = s.arbiter))
    ∧ (s.peers.panel.silence = some left →
      let u := s.elapse left
      ∃ t, exec .panelTimeout s = .next t
        ∧ t = { u with peers := { u.peers with panel := { u.peers.panel with silence := none } }, link := t.link }
        ∧ u.link.UpkeptFrom t.link)

/-- REPORT_ARRIVAL: the entry of an eligible source is written whole and the others stand; a source above Z is
dropped; one that bears the own number sets DUPLICATE (R37, R38, R39, R41, R46, R80). The order in which an entry is handed
on is the model's reading (log 17). -/
def Obligations.ReportArrivalKept : Prop :=
  ∀ (source : Nat) (r : ReportBody) (s : State), s.Sound → s.Hears →
    let inRange := fun (x : Word) => max (-640) (min 1360 x.toInt)
    ∃ t, exec (.reportArrival source r) s = .next t
      ∧ s.hears.link.UpkeptFrom t.link
      ∧ (source = s.own →
          t = { s with
            peers := { s.peers with duplicate := some (12 * s.cfg.period) }
            share := t.share, output := t.output, link := t.link }
          ∧ (if s.peers.duplicate.isSome = true then t.share = s.share ∧ t.output = s.output
             else s.Recomputes s.output t))
      ∧ (source ≠ s.own → source = 0 ∨ s.cfg.zones < source → t = { s with link := t.link })
      ∧ (source ≠ s.own → 1 ≤ source → source ≤ s.cfg.zones →
          t = { s with
            peers := { s.peers with table := t.peers.table }
            sensing := t.sensing, share := t.share, arbiter := t.arbiter, output := t.output, link := t.link }
          ∧ entryFor source t.peers.table = some
              { number := source, state := .live, age := 0, heard := r.state, level := r.level
                priority := r.priority, dEl := min 60 r.dEl.toNat * 100, dC := min 250 r.dC.toNat
                cEl := min 60 r.cEl.toNat * 100, cC := min 250 r.cC.toNat, ret := r.ret.map inRange
                outside := r.outside.map inRange, door := r.door, flags := r.flags }
          ∧ t.peers.table.filter (·.number ≠ source) = s.peers.table.filter (·.number ≠ source)
          ∧ (t.peers.table.map (·.number)).Pairwise (· < ·)
          ∧ s.HandsEntry source t)

/-- ENTRY_STALE and ENTRY_LOST: a LIVE entry at 3P, and any that is not LOST at 12P, with what each hands on; and
DUPLICATE_TIMER_EXPIRY: DUPLICATE clears and the allowance is recomputed (R40, R41, R47, R80). The order in which an entry
is handed on is the model's reading (log 17). That the time left passes first is the model's choice (log 2). -/
def Obligations.EntriesAgeAndDuplicateEnds : Prop :=
  ∀ (e : Entry) (left : Nat) (s : State), s.Sound →
    (entryFor e.number s.peers.table = some e → e.state = .live →
      let u := s.elapse (3 * s.cfg.period - e.age)
      ∃ t, exec (.entryStale e.number) s = .next t
        ∧ t = { u with
            peers := { u.peers with table := u.peers.table.map fun x =>
              if x.number = e.number then { x with state := .stale } else x }
            sensing := t.sensing, share := t.share, arbiter := t.arbiter, output := t.output, link := t.link }
        ∧ u.HandsEntry e.number t ∧ u.link.UpkeptFrom t.link)
    ∧ (entryFor e.number s.peers.table = some e → e.state ≠ .lost →
      let u := s.elapse (12 * s.cfg.period - e.age)
      ∃ t, exec (.entryLost e.number) s = .next t
        ∧ t = { u with
            peers := { u.peers with table := u.peers.table.map fun x =>
              if x.number = e.number then { x with state := .lost, age := 12 * s.cfg.period } else x }
            sensing := t.sensing, share := t.share, arbiter := t.arbiter, output := t.output, link := t.link }
        ∧ u.HandsEntry e.number t ∧ u.link.UpkeptFrom t.link)
    ∧ (s.peers.duplicate = some left →
      let u := s.elapse left
      ∃ t, exec .duplicateTimerExpiry s = .next t
        ∧ t = { u with
            peers := { u.peers with duplicate := none }, share := t.share, output := t.output, link := t.link }
        ∧ u.Recomputes u.output t ∧ u.link.UpkeptFrom t.link)

/-- OVERLOAD_ARRIVAL: one stage off at once where one is on; in RUNNING and TEST a hold of 2000 ms for each unit of
the own number, with its cap; and a recomputation, but in STANDBY, where the arrival acts on the output stage alone.
OVERLOAD_HOLD_EXPIRY: the cap lifts and the allowance is recomputed (R80, R92, R93, R94, R96, R132). That R96 excepts
STANDBY from R80's recomputation, and STARTING not, is the model's reading (log 21), and so is that a stage may go back on
at the hold's end whatever falls together with it (log 35); that a cap not in force is held as 0 (log 28) and that the time left passes first (log 2) are its choices. -/
def Obligations.OverloadShedsAndHoldEnds : Prop :=
  ∀ (left : Nat) (s : State),
    (s.Sound → s.Hears →
      let o := s.output
      let inForce := s.control.state = .running ∨ s.control.state = .test
      ∃ t, exec .overloadArrival s = .next t
        ∧ t = { s with share := t.share, output := t.output, link := t.link }
        ∧ s.hears.link.UpkeptFrom t.link
        ∧ t.output.stagesOn = o.stagesOn - 1
        ∧ (0 < o.stagesOn →
            t.output = { o with
              fanTarget := t.output.fanTarget, evapTarget := t.output.evapTarget,
              coolantTarget := t.output.coolantTarget, damperTarget := t.output.damperTarget,
              stageTarget := t.output.stageTarget, stagesOn := o.stagesOn - 1, upDelay := none,
              downDelay := if t.output.stageTarget < o.stagesOn - 1 then some 500 else none,
              seq := if t.output.stageTarget < o.stagesOn - 1 then .steppingDown else .settled,
              afterRun := if o.stagesOn = 1 then some 30000 else none }
            ∧ t.output.stageTarget ≤ o.stagesOn - 1 ∧ t.TargetsTaken)
        ∧ (inForce →
            t.share = allowance { t.shareInputs with hold := some (2000 * s.own), cap := o.stagesOn - 1 }
            ∧ t.share.hold = some (2000 * s.own) ∧ t.share.cap = o.stagesOn - 1 ∧ t.share.nEl ≤ o.stagesOn - 1)
        ∧ (inForce → o.stagesOn = 0 → t.TakesTargets o ∧ t.output.stageTarget = 0 ∧ t.output.seq ≠ .waiting)
        ∧ (s.control.state = .starting →
            t.share = allowance s.shareInputs ∧ t.share.hold = none ∧ (o.stagesOn = 0 → t.output = o))
        ∧ (s.control.state = .standby → t.share = s.share ∧ (o.stagesOn = 0 → t.output = o)))
    ∧ (s.share.hold = some left →
      let u := s.elapse left
      ∃ t, exec .overloadHoldExpiry s = .next t
        ∧ t = { u with share := t.share, output := t.output, link := t.link }
        ∧ t.share = allowance { t.shareInputs with hold := none, cap := 0 } ∧ t.TakesTargets u.output ∧ u.link.UpkeptFrom t.link)

/-! ## Modes and doors -/

/-- A raise: a pending mode and an active untimed one stand; an active timed one starts its time again; any other is
marked pending and, where its level lies above the governing one and the stack has room, taken. An end: a pending mode
loses its mark; a buried one is retired in its place; the governing one gives way to the first entry that is not
retired, over which the highest pending mode above it is taken; any other mode changes nothing (R105, R106, R107,
R109, R110, R111, R112, R113). -/
def Obligations.ModesRaisedAndEnded : Prop :=
  ∀ (a : Arbiter),
    (a.Sound → ∀ m ∈ raisableModes,
       let b := a.raise m
       (a.pending.get m = true → b = a)
       ∧ (a.active.get m = true → b = match modeDuration m with | some d => a.setTimer m (some d) | none => a)
       ∧ (a.pending.get m = false → a.active.get m = false →
           b = if a.governing.level < m.level ∧ a.stack.length < 3 then
                 { a with
                   active := a.active.set m true, governing := m
                   stack := { mode := a.governing, retired := false } :: a.stack }.setTimer m (modeDuration m)
               else { a with pending := a.pending.set m true }))
    ∧ (a.Sound → ∀ m ∈ raisableModes,
        let b := a.finish m
        let unmarked := { a with active := a.active.set m false }.setTimer m none
        let left := a.stack.dropWhile (·.retired)
        let next := (left.head?.map (·.mode)).getD .auto
        let waiting := raisableModes.filter fun w => a.pending.get w && decide (next.level < w.level)
        (a.pending.get m = true → b = { a with pending := a.pending.set m false })
        ∧ (a.pending.get m = false → a.active.get m = false → b = a)
        ∧ (a.active.get m = true → a.governing ≠ m →
            b = { unmarked with stack := a.stack.map fun e => if e.mode = m then { e with retired := true } else e })
        ∧ (a.governing = m →
            b = match waiting.head? with
                | none => { unmarked with governing := next, stack := left.tail }
                | some w =>
                  { unmarked with
                    pending := a.pending.set w false, active := unmarked.active.set w true, governing := w
                    stack := { mode := next, retired := false } :: left.tail }.setTimer w (modeDuration w)))

/-- POST_ARRIVAL and MODE_TIMER_EXPIRY: a POST for all zones or this one raises its mode in RUNNING, or ends it; a
POST for another zone is dropped; a mode timer ends its mode as a POST END does (R27, R98, R100, R104, R114). That the
time left passes first is the model's choice (log 2). -/
def Obligations.PostsAndModeTimers : Prop :=
  ∀ (source : Nat) (condition : PostCondition) (action : PostAction) (target : Nat) (mode : TimedMode) (left : Nat)
    (s : State), s.Sound →
    let m := match condition with | .purge => Mode.purge | .boost => .boost | .precond => .precond
    let n := match mode with | .purge => Mode.purge | .boost => .boost | .precond => .precond
    (s.Hears → assigned source = true →
      ∃ t, exec (.postArrival source condition action target) s = .next t
        ∧ t = { s with share := t.share, arbiter := t.arbiter, output := t.output, link := t.link }
        ∧ s.hears.link.UpkeptFrom t.link
        ∧ t.arbiter = (if target ≠ 0 ∧ target ≠ s.own then s.arbiter
                       else if action = .finish then s.arbiter.finish m
                       else if s.control.state = .running then s.arbiter.raise m else s.arbiter)
        ∧ s.HandsMode t)
    ∧ (s.arbiter.timer mode = some left →
      let u := s.elapse left
      ∃ t, exec (.modeTimerExpiry mode) s = .next t
        ∧ t = { u with share := t.share, arbiter := u.arbiter.finish n, output := t.output, link := t.link }
        ∧ u.HandsMode t ∧ u.link.UpkeptFrom t.link)

/-- DOOR_INPUT_OPEN and DOOR_INPUT_CLOSE: in a door zone an opening starts the dwell in full, and a closing stops it,
clears the own door condition and may start the DOOR tail; elsewhere the pin alone changes. DOOR_DWELL_EXPIRY makes
the own condition and the DOOR cause hold, which in RUNNING raises DOOR; DOOR_TAIL_EXPIRY ends DOOR (R98, R101, R102,
R103, R110). That the time left passes first is the model's choice (log 2). -/
def Obligations.DoorConditionMoves : Prop :=
  ∀ (left : Nat) (s : State),
    (s.Sound → s.acting = true →
       (s.pins.doorOpen = false →
         ∃ t, exec .doorInputOpen s = .next t
           ∧ t = { s with
               pins := { s.pins with doorOpen := true }
               arbiter := { s.arbiter with dwell := if s.cfg.doorZone = true then some 1000 else none }
               link := t.link }
           ∧ s.link.UpkeptFrom t.link)
       ∧ (s.pins.doorOpen = true →
         ∃ t, exec .doorInputClose s = .next t
           ∧ t = { s with pins := { s.pins with doorOpen := false }, arbiter := t.arbiter, link := t.link }
           ∧ { s.arbiter with ownDoor := false, dwell := none }.CauseJudged
               (s.cfg.followAdjacent && s.neighbourDoor) s.isRunning t.arbiter
           ∧ s.link.UpkeptFrom t.link))
    ∧ (s.Sound → let u := s.elapse left
        (s.arbiter.dwell = some left →
          ∃ t, exec .doorDwellExpiry s = .next t
            ∧ t = { u with share := t.share, arbiter := t.arbiter, output := t.output, link := t.link }
            ∧ t.arbiter.ownDoor = true ∧ t.arbiter.cause = true
            ∧ { u.arbiter with ownDoor := true, dwell := none }.CauseJudged true s.isRunning t.arbiter
            ∧ u.HandsMode t ∧ u.link.UpkeptFrom t.link)
        ∧ (s.arbiter.tail = some left →
          ∃ t, exec .doorTailExpiry s = .next t
            ∧ t = { u with share := t.share, arbiter := t.arbiter, output := t.output, link := t.link }
            ∧ t.arbiter = { u.arbiter with tail := none }.finish .door
            ∧ t.arbiter.pending.door = false ∧ t.arbiter.active.door = false
            ∧ u.HandsMode t ∧ u.link.UpkeptFrom t.link))

/-! ## Service requests -/

/-- While the configuration is read or a restart is pending, every request is answered BUSY, and the answer alone
changes; but where it replaces the OK reply to RESTART and no attempt is still sending that, the restart takes effect
(R28, R172, R176; log 6). -/
def Obligations.RequestsAnsweredBusy : Prop :=
  ∀ (c : Instr) (kind : RequestKind) (target : Fin 32) (s : State), s.awake = true → s.link.line ≠ .unread →
    requestOfCommand c = some (kind, target) → target.val = s.own →
    s.control.reading = true ∨ s.control.restartPending = true →
    ∃ u t : State, exec c s = .next t ∧ u = { s with link := u.link }
      ∧ s.hears.link.AnsweredFrom { kind := kind, result := .busy, payload := [] } u.link
      ∧ (s.control.restartPending = false ∨ u.link.holdsRestartOk = true → t = u)
      ∧ (s.Sound → u.SettlesRestart t)

/-- READ_STATUS, READ_CONFIG and READ_PEER: OK, or NOT_PRESENT for a number with no entry, in every station state,
with a payload of 10.1's length and content; nothing but the REPLY slot changes (R45, R172, R173). The layout of the
READ_STATUS payload is as the model reads it (log 12), with its choices of logs 28 to 32; bytes without a code in 10.1
(log 10) and unused ones of READ_CONFIG (log 11) are free. -/
def Obligations.ReadingRequestsAnswered : Prop :=
  ∀ (target : Fin 32) (argument : Byte) (s : State), s.Sound → s.Judges target →
    (∃ t, exec (.readStatus target) s = .next t
      ∧ t = { s with link := t.link }
      ∧ s.hears.link.AnsweredFrom { kind := .readStatus, result := .ok, payload := statusPayload s } t.link
      ∧ (statusPayload s).length = 249 ∧ s.StatusShown (statusPayload s))
    ∧ (∃ t, exec (.readConfig target) s = .next t
      ∧ t = { s with link := t.link }
      ∧ s.hears.link.AnsweredFrom { kind := .readConfig, result := .ok, payload := configPayload s.control } t.link
      ∧ (configPayload s.control).length = 63 ∧ recordFields (configPayload s.control) = s.cfg
      ∧ (configPayload s.control).getD 62 0#8 =
          BitVec.ofNat 8 (bit s.control.cfgDefault + 2 * bit s.control.cfgClamped))
    ∧ (∃ t, exec (.readPeer target argument) s = .next t
      ∧ t = { s with link := t.link }
      ∧ (entryFor argument.toNat s.peers.table = none →
          s.hears.link.AnsweredFrom
            { kind := .readPeer, result := .notPresent, payload := List.replicate 17 0#8 } t.link)
      ∧ (∀ e ∈ entryFor argument.toNat s.peers.table,
          let standing := match e.state with | .live => 0#8 | .stale => 1#8 | .lost => 2#8
          s.hears.link.AnsweredFrom { kind := .readPeer, result := .ok, payload := peerPayload e } t.link
          ∧ (peerPayload e).length = 17
          ∧ (peerPayload e).take 2 = [argument, standing]
          ∧ wordOf ((peerPayload e).getD 2 0#8) ((peerPayload e).getD 3 0#8) = BitVec.ofNat 16 e.age
          ∧ ∃ r ∈ reportBodyOf ((peerPayload e).drop 4),
              r.state = e.heard ∧ r.level = e.level ∧ r.priority = e.priority ∧ r.door = e.door
              ∧ 100 * r.dEl.toNat = e.dEl / 100 * 100 ∧ r.dC.toNat = e.dC ∧ 100 * r.cEl.toNat = e.cEl / 100 * 100
              ∧ r.cC.toNat = e.cC ∧ r.ret.map BitVec.toInt = e.ret ∧ r.outside.map BitVec.toInt = e.outside
              ∧ r.flags = e.flags))

/-- TEST_OUTPUT: from STANDBY it enters TEST with every other setting 0, in TEST it makes its setting, and each starts
the test timer in full; elsewhere, and for an argument that names no output the station has, it is REFUSED and changes
nothing else (R59, R123, R142, R145, R146, R172, R174). That the value is unsigned is the model's reading (log 27). -/
def Obligations.TestOutputMakesSetting : Prop :=
  ∀ (target : Fin 32) (argument : Byte) (value : Word) (s : State), s.Judges target →
    let v := min 1000 value.toNat
    let a := argument.toNat
    let names := 1 ≤ a ∧ a ≤ 4 + s.cfg.stages ∧ a ≤ 7
    let inTest := s.control.state = .test
    let taken := names ∧ (inTest ∨ s.control.state = .standby)
    let old : TestSettings :=
      if inTest then s.output.settings else { fan := 0, evap := 0, coolant := 0, damper := 0, stages := 0 }
    let made : TestSettings :=
      { fan := if a = 1 then v else old.fan, evap := if a = 2 then v else old.evap
        coolant := if a = 3 then v else old.coolant, damper := if a = 4 then v else old.damper
        stages := if 5 ≤ a then (if v = 0 then a - 5 else a - 4) else old.stages }
    ∃ t, exec (.testOutput target argument value) s = .next t
      ∧ t = { s with control := t.control, demand := t.demand, output := t.output, link := t.link }
      ∧ (¬taken → t = { s with link := t.link }
          ∧ s.hears.link.AnsweredFrom { kind := .testOutput, result := .refused, payload := [] } t.link)
      ∧ (taken →
          t.control = { s.control with state := .test, test := some 120000 }
          ∧ t.demand = (if inTest then s.demand else { s.demand with passTimer := some 1000 })
          ∧ t.output.settings = made ∧ t.TargetsTaken ∧ t.output.coolantPos = made.coolant
          ∧ t.TakesTargets { s.output with settings := made, coolantPos := made.coolant }
          ∧ s.hears.link.AnsweredFrom { kind := .testOutput, result := .ok, payload := [] } t.link)

/-- RESTART is accepted but in STARTING and leaves the mark set; CLEAR_LOCK clears a lock and is refused otherwise;
END_TEST is refused outside TEST. A refusal changes nothing else (R150, R153, R163, R172, R175, R176, R177). -/
def Obligations.RestartAndClearLockAnswered : Prop :=
  ∀ (target : Fin 32) (s : State), s.Judges target →
    (∃ t, exec (.restart target) s = .next t
      ∧ (if s.control.state = .starting then
          t = { s with link := t.link }
          ∧ s.hears.link.AnsweredFrom { kind := .restart, result := .refused, payload := [] } t.link
         else
          t = { s with control := { s.control with restartPending := true }, link := t.link }
          ∧ s.hears.link.AnsweredFrom { kind := .restart, result := .ok, payload := [] } t.link))
    ∧ (s.control.state ≠ .test →
      ∃ t, exec (.endTest target) s = .next t
        ∧ t = { s with link := t.link }
        ∧ s.hears.link.AnsweredFrom { kind := .endTest, result := .refused, payload := [] } t.link)
    ∧ (s.interlock.trip ≠ .locked →
      ∃ t, exec (.clearLock target) s = .next t
        ∧ t = { s with link := t.link }
        ∧ s.hears.link.AnsweredFrom { kind := .clearLock, result := .refused, payload := [] } t.link)
    ∧ (s.Sound → s.interlock.trip = .locked →
      ∃ t, exec (.clearLock target) s = .next t
        ∧ t = { s with
            output := t.output, link := t.link,
            interlock := { s.interlock with
              trip := .normal, tripList := [], ceiling := t.interlock.ceiling
              openDwell := if s.pins.contactOpen = true then some 100 else none } }
        ∧ s.HandsCeiling t
        ∧ s.hears.link.AnsweredFrom { kind := .clearLock, result := .ok, payload := [] } t.link)

/-! ## Passes, stages, fan, valves and damper -/

/-- CONTROL_PASS: the new record from its inputs, among them the return temperatures of the LIVE entries of the own number
less and more one; the allowance it brings, then the evaporator valve's move and, in RUNNING, the coolant valve (R9, R44,
R59, R60, R61, R80, R141, R142). That TEST's passes leave the coolant valve is the model's reading (log 24).
That the time left passes first is the model's choice (log 2). -/
def Obligations.ControlPassHandedOn : Prop :=
  ∀ (left : Nat) (s : State), s.demand.passTimer = some left →
    let u := s.elapse left
    let near := u.peers.table.filter fun e =>
      decide (e.state = .live ∧ (e.number + 1 = s.own ∨ e.number = s.own + 1))
    let inputs : PassInputs :=
      { cfg := s.cfg, governing := s.arbiter.governing, setpoint := s.peers.panel.setpoint, outside := s.sensing.outside
        ownReturn := if s.sensing.ret.state = .good then s.sensing.ret.filtered else none
        neighbours := near.filterMap (·.ret), coolant := s.peers.coolant, heatLimited := s.share.heatLimited
        coolLimited := s.share.coolLimited }
    ∃ t, exec .controlPass s = .next t
      ∧ t = { u with
          demand := { passTimer := some 1000, record := controlPass inputs u.demand.record }
          share := t.share, output := t.output, link := t.link }
      ∧ u.Reckons t
      ∧ (let o := (u.output.takeFlow t.flowTargets).takeStageTarget t.own t.stageTarget
         let gap := t.output.evapTarget - u.output.evapPos
         t.output = { o with evapPos := t.output.evapPos, coolantPos := t.output.coolantPos }
         ∧ (s.interlock.frost = .frost → t.output.evapPos = 0)
         ∧ (s.interlock.frost = .clear → u.output.evapPos ≤ t.output.evapTarget →
             t.output.evapPos = u.output.evapPos + min 50 gap)
         ∧ (s.interlock.frost = .clear → t.output.evapTarget < u.output.evapPos →
             t.output.evapPos = u.output.evapPos - min 50 (u.output.evapPos - t.output.evapTarget))
         ∧ t.output.coolantPos =
             if s.control.state = .running then t.demand.record.coolantTarget else u.output.coolantPos)
      ∧ u.link.UpkeptFrom t.link

/-- The targets that the output stage takes in each station state, with the fan and damper targets of each mode, and what
a recomputation of the allowance reads (R80, R118, R123). That TEST's stage target is R123's also after a change of the
ceiling is the model's reading (log 36). -/
def Obligations.TargetsOfStateAndMode : Prop :=
  ∀ (s : State),
    let t := s.flowTargets
    let auto := s.cfg.fanMin + s.demand.record.u.natAbs * (1000 - s.cfg.fanMin) / 1000
    let fan := match s.arbiter.governing with
      | .auto | .economy => auto | .vent => s.cfg.ventSpeed | .precond => 800 | .boost | .purge | .door => 1000
    let damper := match s.arbiter.governing with
      | .auto | .economy => s.cfg.minFresh | .vent => 600 | .purge => 1000 | .precond | .boost | .door => 0
    let tested := min s.output.settings.stages s.interlock.ceiling
    (s.control.state = .running →
      t = { fan := fan, evap := if s.cfg.coolRating = 0 then 0 else s.share.aC * 1000 / s.cfg.coolRating,
            coolant := s.demand.record.coolantTarget, damper := damper }
      ∧ s.stageTarget = min s.share.nEl s.interlock.ceiling)
    ∧ (s.control.state = .test →
        t = { fan := s.output.settings.fan, evap := s.output.settings.evap, coolant := s.output.settings.coolant,
              damper := s.output.settings.damper }
        ∧ s.stageTarget = if s.share.hold.isSome then min s.share.cap tested else tested)
    ∧ (s.control.state = .starting ∨ s.control.state = .standby →
        t = { fan := 0, evap := 0, coolant := 0, damper := 0 } ∧ s.stageTarget = 0)
    ∧ (s.control.state = .running → s.arbiter.governing = .auto → s.cfg.fanMin = 250 → s.demand.record.u.natAbs = 527 →
        t.fan = 645)
    ∧ s.shareInputs =
        { cfg := s.cfg, own := s.own, peers := s.peers, governing := s.arbiter.governing, frost := s.interlock.frost
          wanted := s.demand.record.stagesWanted, demandEl := s.demand.record.dEl, demandC := s.demand.record.dC
          hold := s.share.hold, cap := s.share.cap }

/-- The settling of the sequencer: at most one stage, and only by these rules; and STEP_UP_DELAY_EXPIRY,
STEP_DOWN_DELAY_EXPIRY and FAN_PROVEN, which make it settle (R124, R125, R126, R128, R138). That the time left passes
first is the model's choice (log 2). -/
def Obligations.SequencerSettles : Prop :=
  ∀ (own left : Nat) (o : Output) (s : State),
    (let n := o.settle own
     let allowed := o.upDelay = none ∧ (0 < o.stagesOn ∨ o.proof = .proven)
     let reached := o.stagesOn + 1 = o.stageTarget
     (o.downDelay.isSome → n = { o with seq := .steppingDown })
     ∧ (o.downDelay = none → o.stageTarget < o.stagesOn →
         n = { o with
           stagesOn := o.stagesOn - 1, downDelay := some 500, seq := .steppingDown
           afterRun := if o.stagesOn = 1 then some 30000 else o.afterRun })
     ∧ (o.downDelay = none → o.stagesOn = o.stageTarget → n = { o with seq := .settled })
     ∧ (o.downDelay = none → o.stagesOn < o.stageTarget → allowed →
         n = { o with
           stagesOn := o.stagesOn + 1, upDelay := some (3000 + 250 * own), afterRun := none
           seq := if reached then .settled else .steppingUp })
     ∧ (o.downDelay = none → o.stagesOn < o.stageTarget → ¬allowed →
         n = { o with seq := if o.stagesOn = 0 then .waiting else .steppingUp }))
    ∧ (let u := s.elapse left
      (s.output.upDelay = some left →
        ∃ t, exec .stepUpDelayExpiry s = .next t
          ∧ t = { u with output := { u.output with upDelay := none }.settle s.own, link := t.link }
          ∧ u.link.UpkeptFrom t.link)
      ∧ (s.output.downDelay = some left →
        ∃ t, exec .stepDownDelayExpiry s = .next t
          ∧ t = { u with output := { u.output with downDelay := none }.settle s.own, link := t.link }
          ∧ u.link.UpkeptFrom t.link)
      ∧ (∀ counted, s.output.proof = .counting counted → left = 5000 - counted →
        ∃ t, exec .fanProven s = .next t
          ∧ t = { u with output := { u.output with proof := .proven }.settle s.own, link := t.link }
          ∧ u.link.UpkeptFrom t.link))

/-- FAN_TICK, DAMPER_TICK and AFTER_RUN_EXPIRY: slews that never pass the target, the fan proof judged, and the
after-run's end (R125, R136, R138, R140, R143). That the time left passes first is the model's choice (log 2). -/
def Obligations.FanAndDamperMove : Prop :=
  ∀ (left : Nat) (s : State), let u := s.elapse left
    (s.output.fanTickIn = some left →
      let o := u.output
      let heats := 0 < o.stagesOn ∨ o.seq = .waiting ∨ o.afterRun.isSome
      let held := if heats then max o.fanTarget s.cfg.fanHeatMin else o.fanTarget
      let limited := if s.interlock.supply = .low then min held 600 else held
      let aim := if s.interlock.trip = .tripped ∨ s.interlock.trip = .cooldown then 1000 else limited
      let pos := if o.fanPos ≤ aim then min aim (o.fanPos + 50) else max aim (o.fanPos - 50)
      ∃ t, exec .fanTick s = .next t
        ∧ t = { u with
            output := { o with
              fanPos := pos, fanTickIn := some 100
              proof := if pos < s.cfg.fanHeatMin then .idle else if o.proof = .idle then .counting 0 else o.proof }
            link := t.link }
        ∧ u.link.UpkeptFrom t.link)
    ∧ (s.output.damperTickIn = some left →
      let o := u.output
      ∃ t, exec .damperTick s = .next t
        ∧ t = { u with
            output := { o with
              damperTickIn := some 1000
              damperPos := if o.damperPos ≤ o.damperTarget then min o.damperTarget (o.damperPos + 100)
                else max o.damperTarget (o.damperPos - 100) }
            link := t.link }
        ∧ u.link.UpkeptFrom t.link)
    ∧ (s.output.afterRun = some left →
      ∃ t, exec .afterRunExpiry s = .next t
        ∧ t = { u with output := { u.output with afterRun := none }, link := t.link }
        ∧ u.link.UpkeptFrom t.link)

/-! ## The trip machine -/

/-- The TRIP machine. HEAT_LIMIT_OPEN and HEAT_LIMIT_CLOSE move its dwell and, from TRIPPED, begin the cooldown.
OPEN_DWELL_EXPIRY is a trip, the third within the trip list a lock, and every stage comes off at once; COOLDOWN_EXPIRY
lifts a trip; TRIP_ENTRY_AGE_OUT removes the oldest trip (R131, R150, R151, R152, R163). That the time left passes
first is the model's choice (log 2). -/
def Obligations.TripMachineMoves : Prop :=
  ∀ (left : Nat) (s : State),
    (s.Sound → s.acting = true →
       let i := s.interlock
       let watched := i.trip = .normal ∨ i.trip = .cooldown
       (s.pins.contactOpen = false →
         ∃ t, exec .heatLimitOpen s = .next t
           ∧ t = { s with
               pins := { s.pins with contactOpen := true }
               interlock := { i with openDwell := if watched then some 100 else i.openDwell }, link := t.link }
           ∧ s.link.UpkeptFrom t.link)
       ∧ (s.pins.contactOpen = true →
         ∃ t, exec .heatLimitClose s = .next t
           ∧ t = { s with
               pins := { s.pins with contactOpen := false }
               interlock := { i with
                 openDwell := none, trip := if i.trip = .tripped then .cooldown else i.trip
                 cooldown := if i.trip = .tripped then some 60000 else i.cooldown }
               link := t.link }
           ∧ s.link.UpkeptFrom t.link))
    ∧ (s.Sound → let u := s.elapse left
        (s.interlock.openDwell = some left →
          ∃ t, exec .openDwellExpiry s = .next t
            ∧ t = { u with
                output := t.output, link := t.link,
                interlock := { u.interlock with
                  trip := if u.interlock.tripList.length < 2 then .tripped else .locked
                  openDwell := none, cooldown := none, tripList := u.interlock.tripList ++ [0], ceiling := 0 } }
            ∧ t.output.stagesOn = 0 ∧ t.output.stageTarget = 0 ∧ u.HandsCeiling t ∧ u.link.UpkeptFrom t.link)
        ∧ (s.interlock.cooldown = some left →
          ∃ t, exec .cooldownExpiry s = .next t
            ∧ t = { u with
                output := t.output, link := t.link,
                interlock := { u.interlock with
                  trip := .normal, cooldown := none
                  ceiling := if u.interlock.supply = .low then 0 else u.interlock.discharge } }
            ∧ u.HandsCeiling t ∧ u.link.UpkeptFrom t.link)
        ∧ (∀ age ∈ s.interlock.tripList.head?, left = 1800000 - age →
          ∃ t, exec .tripEntryAgeOut s = .next t
            ∧ t = { u with
                interlock := { u.interlock with tripList := u.interlock.tripList.tail }, link := t.link }
            ∧ u.link.UpkeptFrom t.link))

/-! ## Laws over every command -/

/-- The station state moves by the events of R166's table and by no other, but for RESET_PIN_LOW and LOGIC_SUPPLY_FALL,
which the table does not list and which the model lets stop the station in STARTING (log 23). A restart takes effect at
RESTART_TAKES_EFFECT or within the event that lets go of its OK reply (R166, R176; log 6). -/
def Obligations.StationStateMovesByTable : Prop :=
  ∀ (c : Instr) (s : State), s.Sound → ∀ t, exec c s = .next t → t.control.state ≠ s.control.state →
    let begins := (∃ n, c = .coldStart n ∨ c = .pinReset n) ∨ c = .resetPinLow ∨ c = .logicSupplyFall
    let letsGo := c = .attemptComplete ∨ c = .contentionLoss ∨ c = .attemptError ∨ (requestOfCommand c).isSome
    match s.control.state, t.control.state with
    | .starting, .standby | .starting, .running => c = .listenTimerExpiry
    | .running, .standby => ∃ w, c = .panelArrival .off w
    | .standby, .running | .test, .running => ∃ m w, c = .panelArrival m w ∧ m ≠ .off
    | .standby, .test => ∃ n a w, c = .testOutput n a w
    | .test, .standby => c = .testTimerExpiry ∨ ∃ n, c = .endTest n
    | _, .starting => c = .restartTakesEffect ∨ begins ∨ (letsGo ∧ s.control.restartPending = true)
    | _, _ => False

/-- Every command takes its step in every state and leaves the queue and the levels to come alone. The own number, the configuration values
in use and their two flags hold from the end of the configuration read to the next beginning (R168), and only samples
and the peer table's events reach the sensing unit (00, R13). -/
def Obligations.CommandsCompleteAndHold : Prop :=
  ∀ (c : Instr) (s : State), ∃ t, exec c s = .next t ∧ t.pending = s.pending ∧ t.ties = s.ties ∧ t.wire = s.wire
    ∧ t.micros = s.micros
    ∧ let begins := (∃ n, c = .coldStart n ∨ c = .pinReset n) ∨ c = .resetPinLow ∨ c = .logicSupplyFall
      let read := ∃ bytes, c = .configurationReadEnd bytes
      let samples := (∃ ch n, c = .temperatureSample ch n) ∨ (∃ n, c = .supplySample n)
      let entries := (∃ n r, c = .reportArrival n r) ∨ (∃ n, c = .entryStale n ∨ c = .entryLost n)
      (¬begins → t.own = s.own)
      ∧ (¬begins → ¬read →
          t.cfg = s.cfg ∧ t.control.cfgDefault = s.control.cfgDefault
          ∧ t.control.cfgClamped = s.control.cfgClamped)
      ∧ (¬begins → ¬samples → ¬entries → t.sensing = s.sensing)

/-- Stages go on one at a time, with the fan proven for the first, never while the step-up delay runs, which each
starts in full; and nothing but its expiry, a forced removal or a beginning stops that delay (R124, R133). -/
def Obligations.StageOnsSpaced : Prop :=
  ∀ (c : Instr) (s : State), s.Sound → ∀ t, exec c s = .next t →
    let begins := (∃ n, c = .coldStart n ∨ c = .pinReset n) ∨ c = .resetPinLow ∨ c = .logicSupplyFall
    (s.output.stagesOn < t.output.stagesOn →
      t.output.stagesOn = s.output.stagesOn + 1 ∧ t.output.upDelay = some (3000 + 250 * s.own)
      ∧ (s.output.upDelay = none ∨ c = .stepUpDelayExpiry)
      ∧ (s.output.stagesOn = 0 → s.output.proof = .proven ∨ c = .fanProven))
    ∧ (s.output.upDelay.isSome → t.output.upDelay = none →
      c = .stepUpDelayExpiry ∨ begins ∨ t.output.stagesOn < s.output.stagesOn)

/-! ## The invariant -/

/-- The machine right after reset is sound. The values that the specification leaves open at power-up are the model's
(log 7, log 8). -/
def Obligations.ResetIsSound : Prop := State.reset.Sound

/-- Every step keeps station control within its values, and the blocks at their first values until the configuration
is read; a pending restart never stands due (R154, R166, R167, R168, R174, R176, R178; log 6). That the settings stand
in range before the read (log 8), that the read of a held power-up waits (log 13) and the values of a station held in
reset or without supply (log 23) are the model's. -/
def Obligations.StepKeepsControlSound : Prop :=
  ∀ (s : State), s.Sound → ∀ t, step s = .next t → t.ControlSound ∧ t.WaitingSound

/-- Every step keeps the channels and the outside temperature within their ranges and runs, the peer table in
ascending order with at most one entry a number, and every heard value in range (R5, R7, R8, R11, R14, R16, R37, R39,
R40, R48 to R55). -/
def Obligations.StepKeepsSensingAndPeersSound : Prop :=
  ∀ (s : State), s.Sound → ∀ t, step s = .next t → t.SensingSound ∧ t.PeersSound

/-- Every step keeps the line, the slots, the attempt and the counts in agreement, and a waiting report current (R19, R20,
R21, R24, R28, R30, R31, R36). That it is current also while a REPLY attempt is in progress is the model's reading
(log 25), and the bit times read within a millisecond are its own count (log 5). -/
def Obligations.StepKeepsLinkSound : Prop :=
  ∀ (s : State), s.Sound → ∀ t, step s = .next t → t.LinkSound

/-- Every step keeps the demand record and the allowance within their ranges and budgets, and marks, stack, governing mode
and mode timers in agreement (R70, R71, R75, R77, R79, R89, R90, R97, R102, R103, R104, R107, R108, R112, R113). That a
heat side with no demand is never share-limited is the model's reading (log 15), and a cap of 0 while the hold is stopped
its choice (log 28). -/
def Obligations.StepKeepsDemandShareAndArbiterSound : Prop :=
  ∀ (s : State), s.Sound → ∀ t, step s = .next t → t.DemandSound ∧ t.ShareSound ∧ t.ArbiterSound

/-- Every step keeps the targets those of their sources, the sequencer's state true to its stages, the stages under
the ceiling, and the fan at its heating minimum while a stage is on (R123, R126, R130, R137, R140, R141). -/
def Obligations.StepKeepsOutputSound : Prop :=
  ∀ (s : State), s.Sound → ∀ t, step s = .next t →
    t.OutputSound ∧ (0 < t.output.stagesOn → t.cfg.fanHeatMin ≤ t.output.fanPos)

/-- Every step keeps the protective machines, their dwells and the trip list in agreement, and the effective ceiling
the one R163 gives (R130, R150, R151, R152, R155, R158, R159, R160, R163). -/
def Obligations.StepKeepsInterlockSound : Prop :=
  ∀ (s : State), s.Sound → ∀ t, step s = .next t → t.InterlockSound
end

