-- ==== Sys2Proof/Laws/State.lean ====
section
/-! SUPPORT. What each shared operation on the station leaves unchanged, one lemma per field, and the fields it writes. A
proof cites these and does not unfold the operation. -/

namespace Sys2Proof.Machine

/-! ## State.watch -/

@[simp] theorem State.watch_pins (s before : State) : (s.watch before).pins = s.pins := rfl

@[simp] theorem State.watch_control (s before : State) : (s.watch before).control = s.control := rfl

@[simp] theorem State.watch_sensing (s before : State) : (s.watch before).sensing = s.sensing := rfl

@[simp] theorem State.watch_peers (s before : State) : (s.watch before).peers = s.peers := rfl

@[simp] theorem State.watch_demand (s before : State) : (s.watch before).demand = s.demand := rfl

@[simp] theorem State.watch_share (s before : State) : (s.watch before).share = s.share := rfl

@[simp] theorem State.watch_arbiter (s before : State) : (s.watch before).arbiter = s.arbiter := rfl

@[simp] theorem State.watch_output (s before : State) : (s.watch before).output = s.output := rfl

@[simp] theorem State.watch_interlock (s before : State) : (s.watch before).interlock = s.interlock := rfl

@[simp] theorem State.watch_ties (s before : State) : (s.watch before).ties = s.ties := rfl

@[simp] theorem State.watch_pending (s before : State) : (s.watch before).pending = s.pending := rfl

@[simp] theorem State.watch_wire (s before : State) : (s.watch before).wire = s.wire := rfl

@[simp] theorem State.watch_micros (s before : State) : (s.watch before).micros = s.micros := rfl

/-! ## State.hears -/

@[simp] theorem State.hears_pins (s : State) : s.hears.pins = s.pins := rfl

@[simp] theorem State.hears_control (s : State) : s.hears.control = s.control := rfl

@[simp] theorem State.hears_sensing (s : State) : s.hears.sensing = s.sensing := rfl

@[simp] theorem State.hears_peers (s : State) : s.hears.peers = s.peers := rfl

@[simp] theorem State.hears_demand (s : State) : s.hears.demand = s.demand := rfl

@[simp] theorem State.hears_share (s : State) : s.hears.share = s.share := rfl

@[simp] theorem State.hears_arbiter (s : State) : s.hears.arbiter = s.arbiter := rfl

@[simp] theorem State.hears_output (s : State) : s.hears.output = s.output := rfl

@[simp] theorem State.hears_interlock (s : State) : s.hears.interlock = s.interlock := rfl

@[simp] theorem State.hears_ties (s : State) : s.hears.ties = s.ties := rfl

@[simp] theorem State.hears_pending (s : State) : s.hears.pending = s.pending := rfl

@[simp] theorem State.hears_wire (s : State) : s.hears.wire = s.wire := rfl

@[simp] theorem State.hears_micros (s : State) : s.hears.micros = s.micros := rfl

/-! ## State.reply -/

@[simp] theorem State.reply_pins (k : RequestKind) (r : Result) (p : List Byte) (s : State) :
    (s.reply k r p).pins = s.pins := rfl

@[simp] theorem State.reply_control (k : RequestKind) (r : Result) (p : List Byte) (s : State) :
    (s.reply k r p).control = s.control := rfl

@[simp] theorem State.reply_sensing (k : RequestKind) (r : Result) (p : List Byte) (s : State) :
    (s.reply k r p).sensing = s.sensing := rfl

@[simp] theorem State.reply_peers (k : RequestKind) (r : Result) (p : List Byte) (s : State) :
    (s.reply k r p).peers = s.peers := rfl

@[simp] theorem State.reply_demand (k : RequestKind) (r : Result) (p : List Byte) (s : State) :
    (s.reply k r p).demand = s.demand := rfl

@[simp] theorem State.reply_share (k : RequestKind) (r : Result) (p : List Byte) (s : State) :
    (s.reply k r p).share = s.share := rfl

@[simp] theorem State.reply_arbiter (k : RequestKind) (r : Result) (p : List Byte) (s : State) :
    (s.reply k r p).arbiter = s.arbiter := rfl

@[simp] theorem State.reply_output (k : RequestKind) (r : Result) (p : List Byte) (s : State) :
    (s.reply k r p).output = s.output := rfl

@[simp] theorem State.reply_interlock (k : RequestKind) (r : Result) (p : List Byte) (s : State) :
    (s.reply k r p).interlock = s.interlock := rfl

@[simp] theorem State.reply_ties (k : RequestKind) (r : Result) (p : List Byte) (s : State) :
    (s.reply k r p).ties = s.ties := rfl

@[simp] theorem State.reply_pending (k : RequestKind) (r : Result) (p : List Byte) (s : State) :
    (s.reply k r p).pending = s.pending := rfl

@[simp] theorem State.reply_wire (k : RequestKind) (r : Result) (p : List Byte) (s : State) :
    (s.reply k r p).wire = s.wire := rfl

@[simp] theorem State.reply_micros (k : RequestKind) (r : Result) (p : List Byte) (s : State) :
    (s.reply k r p).micros = s.micros := rfl

/-! ## State.takeTargets -/

@[simp] theorem State.takeTargets_pins (s : State) : s.takeTargets.pins = s.pins := rfl

@[simp] theorem State.takeTargets_control (s : State) : s.takeTargets.control = s.control := rfl

@[simp] theorem State.takeTargets_sensing (s : State) : s.takeTargets.sensing = s.sensing := rfl

@[simp] theorem State.takeTargets_link (s : State) : s.takeTargets.link = s.link := rfl

@[simp] theorem State.takeTargets_peers (s : State) : s.takeTargets.peers = s.peers := rfl

@[simp] theorem State.takeTargets_demand (s : State) : s.takeTargets.demand = s.demand := rfl

@[simp] theorem State.takeTargets_share (s : State) : s.takeTargets.share = s.share := rfl

@[simp] theorem State.takeTargets_arbiter (s : State) : s.takeTargets.arbiter = s.arbiter := rfl

@[simp] theorem State.takeTargets_interlock (s : State) : s.takeTargets.interlock = s.interlock := rfl

@[simp] theorem State.takeTargets_ties (s : State) : s.takeTargets.ties = s.ties := rfl

@[simp] theorem State.takeTargets_pending (s : State) : s.takeTargets.pending = s.pending := rfl

@[simp] theorem State.takeTargets_wire (s : State) : s.takeTargets.wire = s.wire := rfl

@[simp] theorem State.takeTargets_micros (s : State) : s.takeTargets.micros = s.micros := rfl

/-! ## State.reckon -/

@[simp] theorem State.reckon_pins (s : State) : s.reckon.pins = s.pins := rfl

@[simp] theorem State.reckon_control (s : State) : s.reckon.control = s.control := rfl

@[simp] theorem State.reckon_sensing (s : State) : s.reckon.sensing = s.sensing := rfl

@[simp] theorem State.reckon_link (s : State) : s.reckon.link = s.link := rfl

@[simp] theorem State.reckon_peers (s : State) : s.reckon.peers = s.peers := rfl

@[simp] theorem State.reckon_demand (s : State) : s.reckon.demand = s.demand := rfl

@[simp] theorem State.reckon_arbiter (s : State) : s.reckon.arbiter = s.arbiter := rfl

@[simp] theorem State.reckon_output (s : State) : s.reckon.output = s.output := rfl

@[simp] theorem State.reckon_interlock (s : State) : s.reckon.interlock = s.interlock := rfl

@[simp] theorem State.reckon_ties (s : State) : s.reckon.ties = s.ties := rfl

@[simp] theorem State.reckon_pending (s : State) : s.reckon.pending = s.pending := rfl

@[simp] theorem State.reckon_wire (s : State) : s.reckon.wire = s.wire := rfl

@[simp] theorem State.reckon_micros (s : State) : s.reckon.micros = s.micros := rfl

/-! ## State.recompute -/

@[simp] theorem State.recompute_pins (s : State) : s.recompute.pins = s.pins := rfl

@[simp] theorem State.recompute_control (s : State) : s.recompute.control = s.control := rfl

@[simp] theorem State.recompute_sensing (s : State) : s.recompute.sensing = s.sensing := rfl

@[simp] theorem State.recompute_link (s : State) : s.recompute.link = s.link := rfl

@[simp] theorem State.recompute_peers (s : State) : s.recompute.peers = s.peers := rfl

@[simp] theorem State.recompute_demand (s : State) : s.recompute.demand = s.demand := rfl

@[simp] theorem State.recompute_arbiter (s : State) : s.recompute.arbiter = s.arbiter := rfl

@[simp] theorem State.recompute_interlock (s : State) : s.recompute.interlock = s.interlock := rfl

@[simp] theorem State.recompute_ties (s : State) : s.recompute.ties = s.ties := rfl

@[simp] theorem State.recompute_pending (s : State) : s.recompute.pending = s.pending := rfl

@[simp] theorem State.recompute_wire (s : State) : s.recompute.wire = s.wire := rfl

@[simp] theorem State.recompute_micros (s : State) : s.recompute.micros = s.micros := rfl

/-! ## State.selectAgain -/

@[simp] theorem State.selectAgain_pins (s : State) : s.selectAgain.pins = s.pins := rfl

@[simp] theorem State.selectAgain_control (s : State) : s.selectAgain.control = s.control := rfl

@[simp] theorem State.selectAgain_link (s : State) : s.selectAgain.link = s.link := rfl

@[simp] theorem State.selectAgain_peers (s : State) : s.selectAgain.peers = s.peers := rfl

@[simp] theorem State.selectAgain_demand (s : State) : s.selectAgain.demand = s.demand := rfl

@[simp] theorem State.selectAgain_share (s : State) : s.selectAgain.share = s.share := rfl

@[simp] theorem State.selectAgain_arbiter (s : State) : s.selectAgain.arbiter = s.arbiter := rfl

@[simp] theorem State.selectAgain_output (s : State) : s.selectAgain.output = s.output := rfl

@[simp] theorem State.selectAgain_interlock (s : State) : s.selectAgain.interlock = s.interlock := rfl

@[simp] theorem State.selectAgain_ties (s : State) : s.selectAgain.ties = s.ties := rfl

@[simp] theorem State.selectAgain_pending (s : State) : s.selectAgain.pending = s.pending := rfl

@[simp] theorem State.selectAgain_wire (s : State) : s.selectAgain.wire = s.wire := rfl

@[simp] theorem State.selectAgain_micros (s : State) : s.selectAgain.micros = s.micros := rfl

/-! ## State.handCeiling -/

@[simp] theorem State.handCeiling_pins (s : State) :
    s.handCeiling.pins = s.pins := by unfold State.handCeiling; dsimp only; (repeat' split) <;> rfl

@[simp] theorem State.handCeiling_control (s : State) :
    s.handCeiling.control = s.control := by unfold State.handCeiling; dsimp only; (repeat' split) <;> rfl

@[simp] theorem State.handCeiling_sensing (s : State) :
    s.handCeiling.sensing = s.sensing := by unfold State.handCeiling; dsimp only; (repeat' split) <;> rfl

@[simp] theorem State.handCeiling_link (s : State) :
    s.handCeiling.link = s.link := by unfold State.handCeiling; dsimp only; (repeat' split) <;> rfl

@[simp] theorem State.handCeiling_peers (s : State) :
    s.handCeiling.peers = s.peers := by unfold State.handCeiling; dsimp only; (repeat' split) <;> rfl

@[simp] theorem State.handCeiling_demand (s : State) :
    s.handCeiling.demand = s.demand := by unfold State.handCeiling; dsimp only; (repeat' split) <;> rfl

@[simp] theorem State.handCeiling_share (s : State) :
    s.handCeiling.share = s.share := by unfold State.handCeiling; dsimp only; (repeat' split) <;> rfl

@[simp] theorem State.handCeiling_arbiter (s : State) :
    s.handCeiling.arbiter = s.arbiter := by unfold State.handCeiling; dsimp only; (repeat' split) <;> rfl

@[simp] theorem State.handCeiling_ties (s : State) :
    s.handCeiling.ties = s.ties := by unfold State.handCeiling; dsimp only; (repeat' split) <;> rfl

@[simp] theorem State.handCeiling_pending (s : State) :
    s.handCeiling.pending = s.pending := by unfold State.handCeiling; dsimp only; (repeat' split) <;> rfl

@[simp] theorem State.handCeiling_wire (s : State) :
    s.handCeiling.wire = s.wire := by unfold State.handCeiling; dsimp only; (repeat' split) <;> rfl

@[simp] theorem State.handCeiling_micros (s : State) :
    s.handCeiling.micros = s.micros := by unfold State.handCeiling; dsimp only; (repeat' split) <;> rfl

/-! ## State.protect -/

@[simp] theorem State.protect_pins (f : Interlock → Interlock) (s : State) :
    (s.protect f).pins = s.pins := by simp [State.protect]

@[simp] theorem State.protect_control (f : Interlock → Interlock) (s : State) :
    (s.protect f).control = s.control := by simp [State.protect]

@[simp] theorem State.protect_sensing (f : Interlock → Interlock) (s : State) :
    (s.protect f).sensing = s.sensing := by simp [State.protect]

@[simp] theorem State.protect_link (f : Interlock → Interlock) (s : State) :
    (s.protect f).link = s.link := by simp [State.protect]

@[simp] theorem State.protect_peers (f : Interlock → Interlock) (s : State) :
    (s.protect f).peers = s.peers := by simp [State.protect]

@[simp] theorem State.protect_demand (f : Interlock → Interlock) (s : State) :
    (s.protect f).demand = s.demand := by simp [State.protect]

@[simp] theorem State.protect_share (f : Interlock → Interlock) (s : State) :
    (s.protect f).share = s.share := by simp [State.protect]

@[simp] theorem State.protect_arbiter (f : Interlock → Interlock) (s : State) :
    (s.protect f).arbiter = s.arbiter := by simp [State.protect]

@[simp] theorem State.protect_ties (f : Interlock → Interlock) (s : State) :
    (s.protect f).ties = s.ties := by simp [State.protect]

@[simp] theorem State.protect_pending (f : Interlock → Interlock) (s : State) :
    (s.protect f).pending = s.pending := by simp [State.protect]

@[simp] theorem State.protect_wire (f : Interlock → Interlock) (s : State) :
    (s.protect f).wire = s.wire := by simp [State.protect]

@[simp] theorem State.protect_micros (f : Interlock → Interlock) (s : State) :
    (s.protect f).micros = s.micros := by simp [State.protect]

/-! ## State.handFrost -/

@[simp] theorem State.handFrost_pins (s : State) : s.handFrost.pins = s.pins := by unfold State.handFrost; split <;> rfl

@[simp] theorem State.handFrost_control (s : State) :
    s.handFrost.control = s.control := by unfold State.handFrost; split <;> rfl

@[simp] theorem State.handFrost_sensing (s : State) :
    s.handFrost.sensing = s.sensing := by unfold State.handFrost; split <;> rfl

@[simp] theorem State.handFrost_link (s : State) : s.handFrost.link = s.link := by unfold State.handFrost; split <;> rfl

@[simp] theorem State.handFrost_peers (s : State) :
    s.handFrost.peers = s.peers := by unfold State.handFrost; split <;> rfl

@[simp] theorem State.handFrost_demand (s : State) :
    s.handFrost.demand = s.demand := by unfold State.handFrost; split <;> rfl

@[simp] theorem State.handFrost_arbiter (s : State) :
    s.handFrost.arbiter = s.arbiter := by unfold State.handFrost; split <;> rfl

@[simp] theorem State.handFrost_interlock (s : State) :
    s.handFrost.interlock = s.interlock := by unfold State.handFrost; split <;> rfl

@[simp] theorem State.handFrost_ties (s : State) : s.handFrost.ties = s.ties := by unfold State.handFrost; split <;> rfl

@[simp] theorem State.handFrost_pending (s : State) :
    s.handFrost.pending = s.pending := by unfold State.handFrost; split <;> rfl

@[simp] theorem State.handFrost_wire (s : State) :
    s.handFrost.wire = s.wire := by unfold State.handFrost; split <;> rfl

@[simp] theorem State.handFrost_micros (s : State) :
    s.handFrost.micros = s.micros := by unfold State.handFrost; split <;> rfl

/-! ## State.arbitrate -/

@[simp] theorem State.arbitrate_pins (f : Arbiter → Arbiter) (s : State) :
    (s.arbitrate f).pins = s.pins := by unfold State.arbitrate; dsimp only; (repeat' split) <;> rfl

@[simp] theorem State.arbitrate_control (f : Arbiter → Arbiter) (s : State) :
    (s.arbitrate f).control = s.control := by unfold State.arbitrate; dsimp only; (repeat' split) <;> rfl

@[simp] theorem State.arbitrate_sensing (f : Arbiter → Arbiter) (s : State) :
    (s.arbitrate f).sensing = s.sensing := by unfold State.arbitrate; dsimp only; (repeat' split) <;> rfl

@[simp] theorem State.arbitrate_link (f : Arbiter → Arbiter) (s : State) :
    (s.arbitrate f).link = s.link := by unfold State.arbitrate; dsimp only; (repeat' split) <;> rfl

@[simp] theorem State.arbitrate_peers (f : Arbiter → Arbiter) (s : State) :
    (s.arbitrate f).peers = s.peers := by unfold State.arbitrate; dsimp only; (repeat' split) <;> rfl

@[simp] theorem State.arbitrate_demand (f : Arbiter → Arbiter) (s : State) :
    (s.arbitrate f).demand = s.demand := by unfold State.arbitrate; dsimp only; (repeat' split) <;> rfl

@[simp] theorem State.arbitrate_interlock (f : Arbiter → Arbiter) (s : State) :
    (s.arbitrate f).interlock = s.interlock := by unfold State.arbitrate; dsimp only; (repeat' split) <;> rfl

@[simp] theorem State.arbitrate_ties (f : Arbiter → Arbiter) (s : State) :
    (s.arbitrate f).ties = s.ties := by unfold State.arbitrate; dsimp only; (repeat' split) <;> rfl

@[simp] theorem State.arbitrate_pending (f : Arbiter → Arbiter) (s : State) :
    (s.arbitrate f).pending = s.pending := by unfold State.arbitrate; dsimp only; (repeat' split) <;> rfl

@[simp] theorem State.arbitrate_wire (f : Arbiter → Arbiter) (s : State) :
    (s.arbitrate f).wire = s.wire := by unfold State.arbitrate; dsimp only; (repeat' split) <;> rfl

@[simp] theorem State.arbitrate_micros (f : Arbiter → Arbiter) (s : State) :
    (s.arbitrate f).micros = s.micros := by unfold State.arbitrate; dsimp only; (repeat' split) <;> rfl

/-! ## State.judgeDoor -/

@[simp] theorem State.judgeDoor_pins (s : State) : s.judgeDoor.pins = s.pins := by simp [State.judgeDoor]

@[simp] theorem State.judgeDoor_control (s : State) : s.judgeDoor.control = s.control := by simp [State.judgeDoor]

@[simp] theorem State.judgeDoor_sensing (s : State) : s.judgeDoor.sensing = s.sensing := by simp [State.judgeDoor]

@[simp] theorem State.judgeDoor_link (s : State) : s.judgeDoor.link = s.link := by simp [State.judgeDoor]

@[simp] theorem State.judgeDoor_peers (s : State) : s.judgeDoor.peers = s.peers := by simp [State.judgeDoor]

@[simp] theorem State.judgeDoor_demand (s : State) : s.judgeDoor.demand = s.demand := by simp [State.judgeDoor]

@[simp] theorem State.judgeDoor_interlock (s : State) : s.judgeDoor.interlock = s.interlock := by simp [State.judgeDoor]

@[simp] theorem State.judgeDoor_ties (s : State) : s.judgeDoor.ties = s.ties := by simp [State.judgeDoor]

@[simp] theorem State.judgeDoor_pending (s : State) : s.judgeDoor.pending = s.pending := by simp [State.judgeDoor]

@[simp] theorem State.judgeDoor_wire (s : State) : s.judgeDoor.wire = s.wire := by simp [State.judgeDoor]

@[simp] theorem State.judgeDoor_micros (s : State) : s.judgeDoor.micros = s.micros := by simp [State.judgeDoor]

/-! ## State.handEntry -/

@[simp] theorem State.handEntry_pins (n : Nat) (s : State) :
    (s.handEntry n).pins = s.pins := by unfold State.handEntry; dsimp only; split <;> simp

@[simp] theorem State.handEntry_control (n : Nat) (s : State) :
    (s.handEntry n).control = s.control := by unfold State.handEntry; dsimp only; split <;> simp

@[simp] theorem State.handEntry_link (n : Nat) (s : State) :
    (s.handEntry n).link = s.link := by unfold State.handEntry; dsimp only; split <;> simp

@[simp] theorem State.handEntry_peers (n : Nat) (s : State) :
    (s.handEntry n).peers = s.peers := by unfold State.handEntry; dsimp only; split <;> simp

@[simp] theorem State.handEntry_demand (n : Nat) (s : State) :
    (s.handEntry n).demand = s.demand := by unfold State.handEntry; dsimp only; split <;> simp

@[simp] theorem State.handEntry_interlock (n : Nat) (s : State) :
    (s.handEntry n).interlock = s.interlock := by unfold State.handEntry; dsimp only; split <;> simp

@[simp] theorem State.handEntry_ties (n : Nat) (s : State) :
    (s.handEntry n).ties = s.ties := by unfold State.handEntry; dsimp only; split <;> simp

@[simp] theorem State.handEntry_pending (n : Nat) (s : State) :
    (s.handEntry n).pending = s.pending := by unfold State.handEntry; dsimp only; split <;> simp

@[simp] theorem State.handEntry_wire (n : Nat) (s : State) :
    (s.handEntry n).wire = s.wire := by unfold State.handEntry; dsimp only; split <;> simp

@[simp] theorem State.handEntry_micros (n : Nat) (s : State) :
    (s.handEntry n).micros = s.micros := by unfold State.handEntry; dsimp only; split <;> simp

/-! ## State.enterStandby -/

@[simp] theorem State.enterStandby_pins (s : State) : s.enterStandby.pins = s.pins := rfl

@[simp] theorem State.enterStandby_sensing (s : State) : s.enterStandby.sensing = s.sensing := rfl

@[simp] theorem State.enterStandby_link (s : State) : s.enterStandby.link = s.link := rfl

@[simp] theorem State.enterStandby_peers (s : State) : s.enterStandby.peers = s.peers := rfl

@[simp] theorem State.enterStandby_interlock (s : State) : s.enterStandby.interlock = s.interlock := rfl

@[simp] theorem State.enterStandby_ties (s : State) : s.enterStandby.ties = s.ties := rfl

@[simp] theorem State.enterStandby_pending (s : State) : s.enterStandby.pending = s.pending := rfl

@[simp] theorem State.enterStandby_wire (s : State) : s.enterStandby.wire = s.wire := rfl

@[simp] theorem State.enterStandby_micros (s : State) : s.enterStandby.micros = s.micros := rfl

/-! ## State.enterRunning -/

@[simp] theorem State.enterRunning_pins (s : State) : s.enterRunning.pins = s.pins := by simp [State.enterRunning]

@[simp] theorem State.enterRunning_sensing (s : State) :
    s.enterRunning.sensing = s.sensing := by simp [State.enterRunning]

@[simp] theorem State.enterRunning_link (s : State) : s.enterRunning.link = s.link := by simp [State.enterRunning]

@[simp] theorem State.enterRunning_peers (s : State) : s.enterRunning.peers = s.peers := by simp [State.enterRunning]

@[simp] theorem State.enterRunning_interlock (s : State) :
    s.enterRunning.interlock = s.interlock := by simp [State.enterRunning]

@[simp] theorem State.enterRunning_ties (s : State) : s.enterRunning.ties = s.ties := by simp [State.enterRunning]

@[simp] theorem State.enterRunning_pending (s : State) :
    s.enterRunning.pending = s.pending := by simp [State.enterRunning]

@[simp] theorem State.enterRunning_wire (s : State) :
    s.enterRunning.wire = s.wire := by simp [State.enterRunning]

@[simp] theorem State.enterRunning_micros (s : State) :
    s.enterRunning.micros = s.micros := by simp [State.enterRunning]

/-! ## State.makeSetting -/

@[simp] theorem State.makeSetting_pins (x : TestOutput) (v : Nat) (s : State) : (s.makeSetting x v).pins = s.pins := rfl

@[simp] theorem State.makeSetting_control (x : TestOutput) (v : Nat) (s : State) :
    (s.makeSetting x v).control = s.control := rfl

@[simp] theorem State.makeSetting_sensing (x : TestOutput) (v : Nat) (s : State) :
    (s.makeSetting x v).sensing = s.sensing := rfl

@[simp] theorem State.makeSetting_link (x : TestOutput) (v : Nat) (s : State) : (s.makeSetting x v).link = s.link := rfl

@[simp] theorem State.makeSetting_peers (x : TestOutput) (v : Nat) (s : State) :
    (s.makeSetting x v).peers = s.peers := rfl

@[simp] theorem State.makeSetting_demand (x : TestOutput) (v : Nat) (s : State) :
    (s.makeSetting x v).demand = s.demand := rfl

@[simp] theorem State.makeSetting_share (x : TestOutput) (v : Nat) (s : State) :
    (s.makeSetting x v).share = s.share := rfl

@[simp] theorem State.makeSetting_arbiter (x : TestOutput) (v : Nat) (s : State) :
    (s.makeSetting x v).arbiter = s.arbiter := rfl

@[simp] theorem State.makeSetting_interlock (x : TestOutput) (v : Nat) (s : State) :
    (s.makeSetting x v).interlock = s.interlock := rfl

@[simp] theorem State.makeSetting_ties (x : TestOutput) (v : Nat) (s : State) : (s.makeSetting x v).ties = s.ties := rfl

@[simp] theorem State.makeSetting_pending (x : TestOutput) (v : Nat) (s : State) :
    (s.makeSetting x v).pending = s.pending := rfl

@[simp] theorem State.makeSetting_wire (x : TestOutput) (v : Nat) (s : State) :
    (s.makeSetting x v).wire = s.wire := rfl

@[simp] theorem State.makeSetting_micros (x : TestOutput) (v : Nat) (s : State) :
    (s.makeSetting x v).micros = s.micros := rfl

/-! ## State.enterTest -/

@[simp] theorem State.enterTest_pins (s : State) : s.enterTest.pins = s.pins := rfl

@[simp] theorem State.enterTest_sensing (s : State) : s.enterTest.sensing = s.sensing := rfl

@[simp] theorem State.enterTest_link (s : State) : s.enterTest.link = s.link := rfl

@[simp] theorem State.enterTest_peers (s : State) : s.enterTest.peers = s.peers := rfl

@[simp] theorem State.enterTest_share (s : State) : s.enterTest.share = s.share := rfl

@[simp] theorem State.enterTest_arbiter (s : State) : s.enterTest.arbiter = s.arbiter := rfl

@[simp] theorem State.enterTest_interlock (s : State) : s.enterTest.interlock = s.interlock := rfl

@[simp] theorem State.enterTest_ties (s : State) : s.enterTest.ties = s.ties := rfl

@[simp] theorem State.enterTest_pending (s : State) : s.enterTest.pending = s.pending := rfl

@[simp] theorem State.enterTest_wire (s : State) : s.enterTest.wire = s.wire := rfl

@[simp] theorem State.enterTest_micros (s : State) : s.enterTest.micros = s.micros := rfl

/-! ## State.elapse -/

@[simp] theorem State.elapse_pins (ms : Nat) (s : State) : (s.elapse ms).pins = s.pins := rfl

@[simp] theorem State.elapse_sensing (ms : Nat) (s : State) : (s.elapse ms).sensing = s.sensing := rfl

@[simp] theorem State.elapse_ties (ms : Nat) (s : State) : (s.elapse ms).ties = s.ties := rfl

@[simp] theorem State.elapse_pending (ms : Nat) (s : State) : (s.elapse ms).pending = s.pending := rfl

@[simp] theorem State.elapse_wire (ms : Nat) (s : State) : (s.elapse ms).wire = s.wire := rfl

@[simp] theorem State.elapse_micros (ms : Nat) (s : State) : (s.elapse ms).micros = s.micros := rfl

/-! ## State.restarted and State.settleRestart -/

@[simp] theorem State.restarted_pins (s : State) : s.restarted.pins = s.pins := by
  simp [State.restarted]

@[simp] theorem State.restarted_sensing (s : State) : s.restarted.sensing = s.sensing := by
  simp [State.restarted]

@[simp] theorem State.restarted_ties (s : State) : s.restarted.ties = s.ties := by
  simp [State.restarted]

@[simp] theorem State.restarted_pending (s : State) : s.restarted.pending = s.pending := by
  simp [State.restarted]

@[simp] theorem State.restarted_wire (s : State) : s.restarted.wire = s.wire := by
  simp [State.restarted]

@[simp] theorem State.restarted_micros (s : State) : s.restarted.micros = s.micros := by
  simp [State.restarted]

@[simp] theorem State.restarted_control_own (s : State) : s.restarted.control.own = s.control.own := by
  simp [State.restarted]

@[simp] theorem State.settleRestart_pins (s : State) : s.settleRestart.pins = s.pins := by
  unfold State.settleRestart; split <;> simp

@[simp] theorem State.settleRestart_sensing (s : State) : s.settleRestart.sensing = s.sensing := by
  unfold State.settleRestart; split <;> simp

@[simp] theorem State.settleRestart_ties (s : State) : s.settleRestart.ties = s.ties := by
  unfold State.settleRestart; split <;> simp

@[simp] theorem State.settleRestart_pending (s : State) : s.settleRestart.pending = s.pending := by
  unfold State.settleRestart; split <;> simp

@[simp] theorem State.settleRestart_wire (s : State) : s.settleRestart.wire = s.wire := by
  unfold State.settleRestart; split <;> simp

@[simp] theorem State.settleRestart_micros (s : State) : s.settleRestart.micros = s.micros := by
  unfold State.settleRestart; split <;> simp

/-! ## State.hear and State.bitTime -/

@[simp] theorem State.hear_pins (levels : List Bool) (s : State) : (s.hear levels).pins = s.pins := rfl

@[simp] theorem State.hear_control (levels : List Bool) (s : State) : (s.hear levels).control = s.control := rfl

@[simp] theorem State.hear_sensing (levels : List Bool) (s : State) : (s.hear levels).sensing = s.sensing := rfl

@[simp] theorem State.hear_link (levels : List Bool) (s : State) : (s.hear levels).link = s.link := rfl

@[simp] theorem State.hear_peers (levels : List Bool) (s : State) : (s.hear levels).peers = s.peers := rfl

@[simp] theorem State.hear_demand (levels : List Bool) (s : State) : (s.hear levels).demand = s.demand := rfl

@[simp] theorem State.hear_share (levels : List Bool) (s : State) : (s.hear levels).share = s.share := rfl

@[simp] theorem State.hear_arbiter (levels : List Bool) (s : State) : (s.hear levels).arbiter = s.arbiter := rfl

@[simp] theorem State.hear_output (levels : List Bool) (s : State) : (s.hear levels).output = s.output := rfl

@[simp] theorem State.hear_interlock (levels : List Bool) (s : State) : (s.hear levels).interlock = s.interlock := rfl

@[simp] theorem State.hear_ties (levels : List Bool) (s : State) : (s.hear levels).ties = s.ties := rfl

@[simp] theorem State.hear_pending (levels : List Bool) (s : State) : (s.hear levels).pending = s.pending := rfl

@[simp] theorem State.hear_micros (levels : List Bool) (s : State) : (s.hear levels).micros = s.micros := rfl

@[simp] theorem State.bitTime_pins (s : State) : s.bitTime.pins = s.pins := by
  unfold State.bitTime; split <;> rfl

@[simp] theorem State.bitTime_sensing (s : State) : s.bitTime.sensing = s.sensing := by
  unfold State.bitTime; split <;> rfl

@[simp] theorem State.bitTime_ties (s : State) : s.bitTime.ties = s.ties := by
  unfold State.bitTime; split <;> rfl

@[simp] theorem State.bitTime_pending (s : State) : s.bitTime.pending = s.pending := by
  unfold State.bitTime; split <;> rfl

@[simp] theorem State.bitTime_wire (s : State) : s.bitTime.wire = s.wire := by
  unfold State.bitTime; split <;> rfl

/-! ## The fields written -/

@[simp] theorem State.hear_wire (levels : List Bool) (s : State) : (s.hear levels).wire = s.wire ++ levels := rfl

@[simp] theorem State.onLine_pending (f : Link → Link) (s : State) : (s.onLine f).pending = s.pending := by
  unfold State.onLine; split <;> rfl

@[simp] theorem State.hears_link' (s : State) : s.hears.link = s.link.heard := rfl

@[simp] theorem State.reply_link' (k : RequestKind) (r : Result) (p : List Byte) (s : State) :
    (s.reply k r p).link = s.link.answer { kind := k, result := r, payload := p } := rfl

@[simp] theorem State.takeTargets_output' (s : State) :
    s.takeTargets.output = (s.output.takeFlow s.flowTargets).takeStageTarget s.own s.stageTarget := rfl

@[simp] theorem State.reckon_share' (s : State) : s.reckon.share = allowance s.shareInputs := rfl

@[simp] theorem State.recompute_share' (s : State) : s.recompute.share = allowance s.shareInputs := rfl

@[simp] theorem State.selectAgain_sensing' (s : State) :
    s.selectAgain.sensing = selectOutside s.cfg.freshFitted s.peers.table s.sensing := rfl

@[simp] theorem State.arbitrate_arbiter' (f : Arbiter → Arbiter) (s : State) :
    (s.arbitrate f).arbiter = f s.arbiter := by
  unfold State.arbitrate; dsimp only; (repeat' split) <;> rfl

@[simp] theorem State.judgeDoor_arbiter' (s : State) :
    s.judgeDoor.arbiter = s.arbiter.judgeCause s.doorCause s.isRunning := by
  simp [State.judgeDoor]

@[simp] theorem State.enterStandby_control' (s : State) :
    s.enterStandby.control = { s.control with state := .standby, listen := none, test := none } := rfl

@[simp] theorem State.enterStandby_demand' (s : State) : s.enterStandby.demand = .initial := rfl

@[simp] theorem State.enterStandby_arbiter' (s : State) : s.enterStandby.arbiter = s.arbiter.cleared := rfl

@[simp] theorem State.enterRunning_control' (s : State) :
    s.enterRunning.control = { s.control with state := .running, listen := none, test := none } := by
  simp [State.enterRunning]

@[simp] theorem State.enterRunning_demand' (s : State) :
    s.enterRunning.demand =
      { s.demand with passTimer := passTimerAtRunning s.control.state s.demand.passTimer } := by
  simp [State.enterRunning]

@[simp] theorem State.enterRunning_arbiter' (s : State) :
    s.enterRunning.arbiter = s.arbiter.raiseAtEntry s.peers.panel.mode := by
  simp [State.enterRunning]

@[simp] theorem State.elapse_control' (ms : Nat) (s : State) : (s.elapse ms).control = s.control.after ms := rfl

@[simp] theorem State.elapse_link' (ms : Nat) (s : State) : (s.elapse ms).link = s.link.after ms := rfl

@[simp] theorem State.elapse_peers' (ms : Nat) (s : State) : (s.elapse ms).peers = s.peers.after s.cfg ms := rfl

@[simp] theorem State.elapse_demand' (ms : Nat) (s : State) : (s.elapse ms).demand = s.demand.after ms := rfl

@[simp] theorem State.elapse_share' (ms : Nat) (s : State) : (s.elapse ms).share = s.share.after ms := rfl

@[simp] theorem State.elapse_arbiter' (ms : Nat) (s : State) : (s.elapse ms).arbiter = s.arbiter.after ms := rfl

@[simp] theorem State.elapse_output' (ms : Nat) (s : State) : (s.elapse ms).output = s.output.after ms := rfl

@[simp] theorem State.elapse_interlock' (ms : Nat) (s : State) : (s.elapse ms).interlock = s.interlock.after ms := rfl

end Sys2Proof.Machine
end

