-- ==== Sys2Proof/Laws/Ops.lean ====
section
/-! SUPPORT. What each shared operation can do, said once: the forms a meaning has, time, slews and clamps, the fan proof,
the sequencer and forced removals, the peer table, the link controller's upkeep, and targets and ceiling handed on. A
proof cites these and does not unfold the operation. -/

namespace Sys2Proof.Machine

/-! ## The forms of a meaning -/

theorem State.whenActing_of_acting (f : State → State) {s : State} (h : s.acting = true) :
    s.whenActing f = (f s).watch s := by simp [State.whenActing, h]

theorem State.whenActing_of_not_acting (f : State → State) {s : State} (h : s.acting = false) :
    s.whenActing f = s := by simp [State.whenActing, h]

@[simp] theorem State.onExpiry_none (f : State → State) (s : State) : s.onExpiry none f = s := rfl

@[simp] theorem State.onExpiry_some (left : Nat) (f : State → State) (s : State) :
    s.onExpiry (some left) f = (f (s.elapse left)).watch s := rfl

theorem State.onMessage_of_hears (f : State → State) {s : State} (h : s.Hears) :
    s.onMessage f = (f s.hears).watch s := by
  obtain ⟨h1, h2⟩ := h
  simp only [State.acting, Bool.and_eq_true, Bool.not_eq_true'] at h1
  simp [State.onMessage, State.attentive, h1, h2]

/-- A station that is held in reset, has no supply or has read no idle line takes in no message. -/
theorem State.onMessage_of_deaf (f : State → State) {s : State} (h : s.awake = false ∨ s.link.line = .unread) :
    s.onMessage f = s := by
  obtain h | h := h <;> simp [State.onMessage, State.attentive, h]

/-- Before the configuration is read, a message only occupies the line. -/
theorem State.onMessage_of_reading (f : State → State) {s : State} (h : s.awake = true) (hl : s.link.line ≠ .unread)
    (hr : s.control.reading = true) : s.onMessage f = s.hears := by
  simp [State.onMessage, State.attentive, h, hl, hr]

/-- A request that the station judges by its own rules. -/
theorem State.onRequest_of_judges (kind : RequestKind) (f : State → State) {target : Fin 32} {s : State}
    (h : s.Judges target) : s.onRequest kind target f = (f s.hears).watch s := by
  obtain ⟨h1, h2, h3, h4, h5⟩ := h
  simp [State.onRequest, State.attentive, h1, h2, h3, h4, h5]

/-- A request to another station only occupies the line. -/
theorem State.onRequest_of_other (kind : RequestKind) (f : State → State) {target : Fin 32} {s : State}
    (h : s.awake = true) (hl : s.link.line ≠ .unread) (ht : target.val ≠ s.own) :
    s.onRequest kind target f = s.hears := by
  simp [State.onRequest, State.attentive, h, hl, ht]

/-- A request while the configuration is read or a restart is pending. -/
theorem State.onRequest_of_busy (kind : RequestKind) (f : State → State) {target : Fin 32} {s : State}
    (h : s.awake = true) (hl : s.link.line ≠ .unread) (ht : target.val = s.own)
    (hb : s.control.reading = true ∨ s.control.restartPending = true) :
    s.onRequest kind target f = (s.hears.reply kind .busy []).settleRestart := by
  obtain hb | hb := hb <;> simp [State.onRequest, State.attentive, h, hl, ht, hb]

theorem State.onRequest_of_deaf (kind : RequestKind) (f : State → State) (target : Fin 32) {s : State}
    (h : s.awake = false ∨ s.link.line = .unread) : s.onRequest kind target f = s := by
  obtain h | h := h <;> simp [State.onRequest, State.attentive, h]

/-! ## The restart -/

/-- A restart is due exactly where it is pending and its OK reply is gone. -/
theorem State.restartDue_iff (s : State) :
    s.restartDue = true ↔ s.control.restartPending = true ∧ s.link.holdsRestartOk = false := by
  simp [State.restartDue]

theorem State.settleRestart_of_due {s : State} (h : s.restartDue = true) : s.settleRestart = s.restarted := by
  simp [State.settleRestart, h]

theorem State.settleRestart_of_not_due {s : State} (h : s.restartDue = false) : s.settleRestart = s := by
  simp [State.settleRestart, h]

/-! ## Time -/

@[simp] theorem Timer.after_none (ms : Nat) : Timer.after ms none = none := rfl

@[simp] theorem Timer.after_some (ms left : Nat) : Timer.after ms (some left) = some (left - ms) := rfl

@[simp] theorem Timer.after_isSome (ms : Nat) (t : Timer) : (Timer.after ms t).isSome = t.isSome := by
  cases t <;> rfl

@[simp] theorem Timer.after_eq_none (ms : Nat) (t : Timer) : Timer.after ms t = none ↔ t = none := by
  cases t <;> simp

/-- A timer within its length stays within it as time passes. -/
theorem Timer.after_within {most ms : Nat} {t : Timer} (h : t.within most) : (Timer.after ms t).within most := by
  cases t with
  | none => intro left hl; cases hl
  | some left =>
    intro x hx
    obtain rfl : left - ms = x := by simpa using hx
    exact (Nat.sub_le left ms).trans (h left rfl)

/-- As time passes the table keeps its numbers. -/
@[simp] theorem ageTable_numbers (cfg : Settings) (ms : Nat) (table : List Entry) :
    (ageTable cfg ms table).map (·.number) = table.map (·.number) := by
  simp [ageTable, Function.comp_def]

/-- As time passes the fan proof stays what it was, idle, counting or proven. -/
theorem FanProof.after_idle_iff (ms : Nat) (p : FanProof) : p.after ms = .idle ↔ p = .idle := by
  cases p <;> simp [FanProof.after]

@[simp] theorem FanProof.after_isProven (ms : Nat) (p : FanProof) : (p.after ms).isProven = p.isProven := by
  cases p <;> rfl

/-! ## Slews and clamps -/

/-- A slew ends between its position and its target. -/
theorem slew_between (most target position : Nat) :
    min target position ≤ slew most target position ∧ slew most target position ≤ max target position := by
  unfold slew
  split <;> omega

/-- A slew moves by at most its step. -/
theorem slew_step (most target position : Nat) :
    slew most target position ≤ position + most ∧ position ≤ slew most target position + most := by
  unfold slew
  split <;> omega

@[simp] theorem slew_self (most position : Nat) : slew most position position = position := by simp [slew]

theorem clampInt_mem {lo hi : Int} (h : lo ≤ hi) (x : Int) : lo ≤ clampInt lo hi x ∧ clampInt lo hi x ≤ hi := by
  unfold clampInt
  omega

theorem clampInt_eq {lo hi x : Int} (h1 : lo ≤ x) (h2 : x ≤ hi) : clampInt lo hi x = x := by
  unfold clampInt
  omega

theorem clampNat_mem {lo hi : Nat} (h : lo ≤ hi) (x : Nat) : lo ≤ clampNat lo hi x ∧ clampNat lo hi x ≤ hi := by
  unfold clampNat
  omega

theorem temperatureOf_inWorkingRange (w : Word) : inWorkingRange (temperatureOf w) := clampInt_mem (by decide) _

theorem budgetOf_le (w : Word) : budgetOf w ≤ 60000 := by
  unfold budgetOf
  omega

theorem setpointOf_mem (w : Word) : 272 ≤ setpointOf w ∧ setpointOf w ≤ 432 := clampInt_mem (by decide) _

/-! ## The sequencer and forced removals -/

/-- Settling changes the stages by at most one, and never touches targets or positions. -/
theorem Output.settle_frame (own : Nat) (o : Output) :
    o.settle own = { o with
      stagesOn := (o.settle own).stagesOn, upDelay := (o.settle own).upDelay
      downDelay := (o.settle own).downDelay, seq := (o.settle own).seq, afterRun := (o.settle own).afterRun } := by
  unfold Output.settle Output.stagesDownTo Output.stageOn
  split
  · rfl
  · split
    · rfl
    · split <;> rfl

/-- A stage target that equals the one before changes nothing. -/
theorem Output.takeStageTarget_same (own : Nat) (o : Output) : o.takeStageTarget own o.stageTarget = o := by
  simp [Output.takeStageTarget]

/-- A stage target that differs is taken and the sequencer settles. -/
theorem Output.takeStageTarget_new {own target : Nat} {o : Output} (h : target ≠ o.stageTarget) :
    o.takeStageTarget own target = Output.settle own { o with stageTarget := target } := by
  simp [Output.takeStageTarget, h]

/-- The target taken is the target held. -/
@[simp] theorem Output.takeStageTarget_target (own target : Nat) (o : Output) :
    (o.takeStageTarget own target).stageTarget = target := by
  by_cases h : target = o.stageTarget
  · subst h
    rw [Output.takeStageTarget_same]
  · rw [Output.takeStageTarget_new h, Output.settle_frame]

/-- Taking the targets leaves the test settings, and the flow targets are those taken. -/
theorem State.takeTargets_flow (s : State) :
    s.takeTargets.output = { s.takeTargets.output with
      fanTarget := s.flowTargets.fan, evapTarget := s.flowTargets.evap, coolantTarget := s.flowTargets.coolant
      damperTarget := s.flowTargets.damper, settings := s.output.settings } := by
  rw [show s.takeTargets.output = (s.output.takeFlow s.flowTargets).takeStageTarget s.own s.stageTarget from rfl]
  by_cases h : s.stageTarget = s.output.stageTarget
  · rw [show s.stageTarget = (s.output.takeFlow s.flowTargets).stageTarget from h, Output.takeStageTarget_same]
    rfl
  · rw [Output.takeStageTarget_new (by exact h), Output.settle_frame]
    rfl

/-- Taking the targets leaves the flow targets of the station as they are. -/
@[simp] theorem State.takeTargets_flowTargets (s : State) : s.takeTargets.flowTargets = s.flowTargets := by
  unfold State.flowTargets
  rw [s.takeTargets_flow]
  rfl

/-- Taking the targets leaves the stage target of the station as it is. -/
@[simp] theorem State.takeTargets_stageTarget (s : State) : s.takeTargets.stageTarget = s.stageTarget := by
  unfold State.stageTarget
  rw [s.takeTargets_flow]
  rfl

/-- Targets handed to the output stage are taken from it as it stood. -/
theorem State.takeTargets_takes (s : State) : s.takeTargets.TakesTargets s.output := by
  rw [State.TakesTargets, s.takeTargets_flowTargets, s.takeTargets_stageTarget]
  rfl

/-- The targets taken are those of the station's state, the allowance and the ceiling as they stand. -/
theorem State.takeTargets_taken (s : State) : s.takeTargets.TargetsTaken := by
  refine ⟨?_, ?_, ?_, ?_, ?_⟩
  · rw [s.takeTargets_stageTarget, State.takeTargets_output', Output.takeStageTarget_target]
  all_goals rw [s.takeTargets_flowTargets, s.takeTargets_flow]

/-! ## The check -/

/-- The two bytes of a word, high byte first, make it up again. -/
theorem wordOf_wordBytes (w : Word) : wordOf (w.extractLsb' 8 8) (w.extractLsb' 0 8) = w := by
  apply BitVec.eq_of_getLsbD_eq
  intro i hi
  have hw : wordOf (w.extractLsb' 8 8) (w.extractLsb' 0 8) = w.extractLsb' 8 8 ++ w.extractLsb' 0 8 := rfl
  rw [hw, BitVec.getLsbD_append]
  by_cases h : i < 8
  · simp [h]
  · have h1 : i - 8 < 8 := by omega
    have h2 : 8 + (i - 8) = i := by omega
    simp [h, h1, h2]

/-- Bytes followed by their check are taken for good. -/
@[simp] theorem checked_withCheck (bytes : List Byte) : checked (withCheck bytes) = some bytes := by
  have h : (withCheck bytes).length - 2 = bytes.length := by simp [withCheck, wordBytes]
  have h2 : ¬ (withCheck bytes).length < 2 := by simp [withCheck, wordBytes]
  have h3 : (withCheck bytes).take bytes.length = bytes := by simp [withCheck]
  have h4 : (withCheck bytes).drop bytes.length = wordBytes (check bytes) := by simp [withCheck]
  unfold checked
  simp only [h, h2, h3, h4, if_true, if_false]

/-- A record of 62 bytes with its check is settled from its fields. -/
theorem settleConfiguration_withCheck (own : Nat) {fields : List Byte} (h : fields.length = 62) :
    settleConfiguration own (withCheck fields) = adjustExit (raiseZones own (loadFields (withCheck fields))) := by
  have h1 : (withCheck fields).length = 64 := by simp [withCheck, wordBytes, h]
  have h2 : (withCheck fields).take 64 = withCheck fields := List.take_of_length_le (by omega)
  simp [settleConfiguration, h1, h2]

/-! ## The peer table -/

theorem writeEntry_mem {e x : Entry} {table : List Entry} (h : x ∈ writeEntry e table) : x = e ∨ x ∈ table := by
  induction table with
  | nil => simpa [writeEntry] using h
  | cons y ys ih =>
    simp only [writeEntry] at h
    split at h
    · simpa using h
    · split at h
      · simp only [List.mem_cons] at h ⊢
        tauto
      · simp only [List.mem_cons] at h ⊢
        obtain h | h := h
        · tauto
        · have := ih h
          tauto

/-- Writing an entry keeps the table in ascending order, with one entry a number. -/
theorem writeEntry_ascending {e : Entry} {table : List Entry} (h : (table.map (·.number)).Pairwise (· < ·)) :
    ((writeEntry e table).map (·.number)).Pairwise (· < ·) := by
  induction table with
  | nil => simp [writeEntry]
  | cons y ys ih =>
    simp only [List.map_cons, List.pairwise_cons] at h
    obtain ⟨hy, hys⟩ := h
    simp only [writeEntry]
    split
    · next hlt =>
      simp only [List.map_cons, List.pairwise_cons, List.mem_cons]
      refine ⟨?_, hy, hys⟩
      rintro a (rfl | ha)
      · exact hlt
      · exact hlt.trans (hy a ha)
    · split
      · next heq =>
        simp only [List.map_cons, List.pairwise_cons]
        exact ⟨fun a ha => heq ▸ hy a ha, hys⟩
      · next hnlt hne =>
        simp only [List.map_cons, List.pairwise_cons]
        refine ⟨?_, ih hys⟩
        intro a ha
        obtain ⟨x, hx, rfl⟩ := List.mem_map.mp ha
        obtain rfl | hx := writeEntry_mem hx
        · omega
        · exact hy _ (List.mem_map_of_mem hx)

/-- The entry written is the one found. -/
theorem entryFor_writeEntry (e : Entry) (table : List Entry) : entryFor e.number (writeEntry e table) = some e := by
  induction table with
  | nil => simp [writeEntry, entryFor]
  | cons y ys ih =>
    simp only [writeEntry]
    split
    · simp [entryFor]
    · split
      · simp [entryFor]
      · next hne =>
        have hy : ¬ y.number = e.number := fun h => hne h.symm
        simpa [entryFor, List.find?_cons, hy] using ih

/-! ## The link controller -/

/-- What an event of another block may do to the link controller. -/
theorem Link.refresh_upkept (r : ReportBody) (l : Link) : l.UpkeptFrom (l.refresh r) := by
  unfold Link.refresh
  split
  · exact ⟨rfl, rfl⟩
  · next h =>
    split
    · exact ⟨rfl, rfl⟩
    · exact ⟨rfl, by simp [h]⟩

theorem Link.notice_upkept (cfg : Settings) (state : StationState) (l : Link) : l.UpkeptFrom (l.notice cfg state) := by
  unfold Link.notice
  split
  · exact ⟨rfl, rfl⟩
  · split <;> exact ⟨rfl, rfl⟩

/-- Watching an event touches only the waiting report, the early report and the mark of a change. -/
theorem State.watch_upkept (s before : State) : s.link.UpkeptFrom (s.watch before).link := by
  have h : ∀ l : Link, s.link.UpkeptFrom l → s.link.UpkeptFrom (l.refresh s.report) := by
    rintro l ⟨h1, h2⟩
    obtain ⟨h3, h4⟩ := Link.refresh_upkept s.report l
    refine ⟨?_, h4.trans h2⟩
    rw [h3, h1]
  unfold State.watch
  dsimp only
  split
  · exact h _ (Link.notice_upkept _ _ _)
  · exact h _ ⟨rfl, rfl⟩

/-! ## The line -/

/-- A level read with no message on the line moves the line, the run of 1s and the bits read. -/
theorem Link.awaitStart_frame (level : Bool) (l : Link) :
    (l.awaitStart level).1 = { l with
      line := (l.awaitStart level).1.line, ones := (l.count level).ones
      incoming := (l.awaitStart level).1.incoming } := by
  unfold Link.awaitStart
  split <;> rfl

/-- What reading a level may do to the link controller: the line, the run of 1s and the bits read may differ. -/
theorem Link.readLevel_frame (own : Nat) (level : Bool) (l : Link) :
    (l.readLevel own level).1 = { l with
      line := (l.readLevel own level).1.line, ones := (l.count level).ones
      incoming := (l.readLevel own level).1.incoming } := by
  unfold Link.readLevel
  split
  · unfold Link.readBack
    dsimp only
    split <;> rfl
  · exact l.awaitStart_frame level
  · exact Link.awaitStart_frame level { l with incoming := none }
  · unfold Link.receiveLevel
    split <;> rfl

/-- A message is over at a 1 where the next character would start, and arrives there if it is whole. -/
theorem messageEnd_of_over {bits : List Bool} (h : bits.length % 10 = 0) :
    messageEnd bits true =
      some ((decodeMessage (characterBytes (bits ++ [true]))).getD
        (.receptionDrop (characterBytes (bits ++ [true])))) := by
  simp [messageEnd, h]

/-- A stop bit that reads 0 drops the message. -/
theorem messageEnd_of_badStop {bits : List Bool} (h : bits.length % 10 = 9) :
    messageEnd bits false = some (.receptionDrop (characterBytes (bits ++ [false]))) := by
  simp [messageEnd, h]

/-- Any other level is a bit of the message. -/
theorem messageEnd_of_within {bits : List Bool} {level : Bool} (h0 : ¬(bits.length % 10 = 0 ∧ level = true))
    (h9 : ¬(bits.length % 10 = 9 ∧ level = false)) : messageEnd bits level = none := by
  unfold messageEnd
  split
  · rename_i h
    exact absurd ⟨h, rfl⟩ h0
  · rename_i h
    exact absurd ⟨h, rfl⟩ h9
  · rfl

/-- A bit time moves the count of microseconds, and with it, at a whole millisecond, the timers. -/
theorem State.bitTime_eq (s : State) :
    s.bitTime = if s.micros < 984 then { s with micros := s.micros + 16 }
      else { s.elapse 1 with micros := s.micros - 984 } := by
  unfold State.bitTime
  by_cases h : s.micros < 984
  · rw [if_pos h, if_pos (by omega)]
  · rw [if_neg h, if_neg (by omega), show s.micros + 16 - 1000 = s.micros - 984 by omega]

/-- Reading the bits one after another, those of two runs in turn. -/
theorem Link.readLevels_append (own : Nat) (first second : List Bool) (l : Link) :
    l.readLevels own (first ++ second) =
      (((l.readLevels own first).1.readLevels own second).1,
        (l.readLevels own first).2 ++ ((l.readLevels own first).1.readLevels own second).2) := by
  induction first generalizing l with
  | nil => simp [Link.readLevels]
  | cons level levels ih => simp [Link.readLevels, ih]

/-! ## The events due -/

/-- An event that is taken next is due. -/
theorem State.mem_due_of_mem_next {s : State} {c : Instr} (h : c ∈ s.next) : c ∈ s.due := by
  unfold State.next at h
  split at h
  · exact (List.mem_filter.mp h).1
  · exact h

/-- No control pass is taken before the first report after a beginning. -/
theorem State.controlPass_not_mem_next {s : State} (h : s.firstReportGoes = true) : .controlPass ∉ s.next := by
  simp [State.next, h]

/-- The first report, where it goes before a pass, is itself due: its falling due, its attempt or a restart. -/
theorem State.due_of_firstReportGoes {s : State} (h : s.firstReportGoes = true) :
    .restartTakesEffect ∈ s.due ∨ .firstReportDue ∈ s.due ∨ .attemptBegin ∈ s.due := by
  unfold State.firstReportGoes at h
  unfold State.due State.linkDue
  split
  · simp
  · rcases Bool.or_eq_true_iff.mp h with h | h
    · simp [whenDue, beq_iff_eq.mp h]
    · split at h
      · rename_i heq _ _
        simp [whenHolds, heq, h]
      · simp at h

/-- Where an event is due, one is taken next. -/
theorem State.next_eq_nil_iff (s : State) : s.next = [] ↔ s.due = [] := by
  unfold State.next
  split
  · rename_i h
    constructor
    · intro hn
      have hall := List.filter_eq_nil_iff.mp hn
      rcases State.due_of_firstReportGoes h with hd | hd | hd <;> exact absurd (by simp) (hall _ hd)
    · intro hn
      simp [hn]
  · rfl

/-! ## The arbiter and the ceiling handed on -/

/-- A change of the arbiter that leaves the governing mode hands nothing on. -/
theorem State.arbitrate_same {f : Arbiter → Arbiter} {s : State} (h : (f s.arbiter).governing = s.arbiter.governing) :
    s.arbitrate f = { s with arbiter := f s.arbiter } := by simp [State.arbitrate, h]

/-- A change of the governing mode recomputes the allowance and takes the targets. -/
theorem State.arbitrate_new {f : Arbiter → Arbiter} {s : State} (h : (f s.arbiter).governing ≠ s.arbiter.governing) :
    s.arbitrate f = State.recompute { s with arbiter := f s.arbiter } := by simp [State.arbitrate, h]

/-- A recomputation, written out. -/
theorem State.recompute_eq_reckoned (s : State) : s.recompute = s.reckoned := rfl

/-- A change of the arbiter and what it hands on, written out. -/
theorem State.arbitrate_eq_withMode (f : Arbiter → Arbiter) (s : State) : s.arbitrate f = s.withMode (f s.arbiter) := rfl

/-- A recomputation keeps the overload hold and its cap. -/
theorem State.recompute_reckons (s : State) : s.Reckons s.recompute := rfl

/-- A recomputation hands its allowance to the output stage. -/
theorem State.recompute_recomputes (s : State) : s.Recomputes s.output s.recompute :=
  ⟨s.recompute_reckons, s.reckon.takeTargets_takes⟩

/-- An effective ceiling that stands hands nothing on. -/
theorem State.handCeiling_same {s : State} (h : s.interlock.effectiveCeiling = s.interlock.ceiling) :
    s.handCeiling = s := by simp [State.handCeiling, h]

/-- The ceiling left is the effective one. -/
theorem State.handCeiling_ceiling (s : State) : s.handCeiling.interlock.ceiling = s.interlock.effectiveCeiling := by
  unfold State.handCeiling
  dsimp only
  split
  · next h => exact h.symm
  · split <;> rfl

end Sys2Proof.Machine
end

