-- ==== Sys2Proof/Tests/Slice0.lean ====
section
/-! SUPPORT. Tests. Expected figures are the specification's own worked examples and tables. Every statement with
hypotheses has its witness here: a concrete station and operands that meet them, at the ends of their ranges. -/

namespace Sys2Proof.Tests

open Sys2Proof.Machine

/-! ## Stations -/

/-- The station after a command. -/
def after (c : Instr) (s : State) : State :=
  match exec c s with
  | .next t => t
  | .fault _ | .refused _ => s

/-- The configuration values of the worked sequence of chapter 4, with a door zone that follows its neighbours. -/
def worked : Settings :=
  { Config.defaults true true true with
    zones := 4, stages := 3, stagePower := 1500, coolRating := 100, coolantShare := 600, offset := 0
    kp := 200, ki := 60, deadBand := 8, reserveEl := 1000, fanMin := 250, fanHeatMin := 400 }

/-- Station 2 in its listen period. -/
def listening : State :=
  { State.reset with
    control := { State.reset.control with
      phase := .listening, own := 2, cfg := worked, listen := some 1000, read := none }
    link := { Link.initial with line := .busy }
    output := { Output.initial with upDelay := some 3500, fanTickIn := some 100, damperTickIn := some 1000 } }

/-- Station 2 in RUNNING, in AUTO, with nothing heard. -/
def running : State :=
  { listening with
    control := { listening.control with state := .running, listen := none }
    demand := { passTimer := some 1000, record := .zero }
    output := { listening.output with fanTarget := 250, damperTarget := worked.minFresh } }

/-- Station 2 in STANDBY. -/
def standby : State :=
  { listening with control := { listening.control with state := .standby, listen := none } }

/-- Station 2 in TEST, with one stage set. -/
def testing : State :=
  { standby with
    control := { standby.control with state := .test, test := some 120000 }
    demand := { passTimer := some 1000, record := .zero }
    output := { standby.output with
      settings := { TestSettings.zero with stages := 1 }, stageTarget := 1, seq := .waiting } }

/-- A channel in order at a filtered value. -/
def good (t : Int) : ChannelData := { ChannelData.unseeded with filtered := some t }

/-- A channel in FAULT that wants one good sample more. -/
def faulty (t : Int) : ChannelData :=
  { state := .fault, badRun := 0, goodRun := 19, kind := .open, filtered := some t }

/-- A peer entry with demands and claims. -/
def peer (number : Nat) (state : EntryState) (age dEl dC cEl cC : Nat) (outside : Option Int) : Entry :=
  { number := number, state := state, age := age, heard := .running, level := .auto, priority := false, dEl := dEl,
    dC := dC, cEl := cEl, cC := cC, ret := none, outside := outside, door := false, flags := flagSetOf 0#16 }

/-- Station 2 in RUNNING with all its neighbours heard, every silence timer running, DOOR over BOOST on the stack, one
stage on under an overload hold, and every dwell that normal states allow running. -/
def busy : State :=
  { running with
    pins := { State.reset.pins with doorOpen := true, contactOpen := true }
    sensing :=
      { ret := good 306, discharge := good 900, coil := good 10, fresh := good 80, supply := some 230, outside := 80,
        source := .own, selected := true }
    link := { Link.initial with line := .idle, sinceReport := some 100, earlyIn := some 25 }
    peers := { running.peers with
      table := [peer 1 .live 0 1500 80 1500 70 (some 80), peer 3 .live 1500 4500 100 3000 100 (some 96),
        peer 4 .lost 6000 0 60 0 60 none]
      duplicate := some 6000
      panel := { mode := .auto, setpoint := 352, silence := some 30000 }
      budget := { heard := some 6000, silence := some 5000 }
      plant := { capacity := some 300, coolant := some 976, fault := false, silence := some 5000 }
      coolant := .hot }
    demand := { passTimer := some 1000, record := { DemandRecord.zero with
      spEff := some 352, tRet := some 306, source := .own, error := 38, u := 527, iAcc := 3142, heat := 527,
      coolantTarget := 500, stagesWanted := 2, dEl := 3000 } }
    share := { Share.initial with nEl := 1, heatLimited := true, budgetEl := 6000, hold := some 4000, cap := 1 }
    arbiter := { Arbiter.initial with
      active := { Marks.none with boost := true, door := true }, governing := .door
      stack := [{ mode := .boost, retired := false }, { mode := .auto, retired := false }]
      boostTimer := some 600000, dwell := some 1000, tail := some 20000 }
    output := { running.output with
      stagesOn := 1, stageTarget := 1, proof := .proven, fanTarget := 1000, coolantTarget := 500, damperTarget := 0
      fanPos := 1000 }
    interlock := { running.interlock with
      openDwell := some 100, tripList := [600000, 5], coldDwell := some 10000, lowDwell := some 2000
      drop := some 10000 } }

/-- Station 2 in RUNNING in FROST, SUPPLY_LOW and COOLDOWN, with its first report to come and stages just off. -/
def limited : State :=
  { running with
    sensing := { running.sensing with coil := faulty 40, discharge := good 700, supply := some 260 }
    link := { Link.initial with line := .idle, firstIn := some 62 }
    arbiter := { Arbiter.initial with
      pending := { Marks.none with economy := true }
      active := { Marks.none with precond := true, purge := true }, governing := .purge
      stack := [{ mode := .precond, retired := false }, { mode := .auto, retired := false }]
      precondTimer := some 1800000, purgeTimer := some 300000 }
    output := { running.output with
      seq := .steppingDown, downDelay := some 500, proof := .counting 5000, afterRun := some 30000
      fanTarget := 1000, damperTarget := 1000, fanPos := 1000 }
    interlock := { running.interlock with
      trip := .cooldown, cooldown := some 60000, tripList := [1800000, 7], frost := .frost, warmDwell := some 60000
      supply := .low, recovery := some 10000, discharge := 1, rise := some 30000, ceiling := 0 } }

/-- Station 2 in RUNNING and LOCKED, its contact open. -/
def locked : State :=
  { running with
    pins := { running.pins with contactOpen := true }
    interlock := { running.interlock with trip := .locked, tripList := [50, 40, 30], ceiling := 0 } }

/-- Station 1 reading its configuration, its door open. -/
def reading : State := { State.reset with pins := { State.reset.pins with doorOpen := true } }

/-- A station held in reset from before its supply rose. -/
def heldCold : State :=
  { State.reset with
    pins := { State.reset.pins with resetLow := true, holdIsCold := true }
    control := { State.reset.control with read := none } }

/-- A station without supply. -/
def dead : State := { heldCold with pins := { State.reset.pins with powered := false } }

/-- A report of a zone in RUNNING at AUTO. -/
def report : ReportBody :=
  { state := .running, level := .auto, priority := false, door := false, dEl := 15#8, dC := 0#8, cEl := 15#8,
    cC := 0#8, ret := some 320#16, outside := some 80#16, flags := flagSetOf 0#16 }

theorem sound_listening : listening.Sound :=
  ⟨by decide, by decide, by decide, by decide, by decide, by decide, by decide, by decide, by decide, by decide⟩

theorem sound_running : running.Sound :=
  ⟨by decide, by decide, by decide, by decide, by decide, by decide, by decide, by decide, by decide, by decide⟩

theorem sound_standby : standby.Sound :=
  ⟨by decide, by decide, by decide, by decide, by decide, by decide, by decide, by decide, by decide, by decide⟩

theorem sound_testing : testing.Sound :=
  ⟨by decide, by decide, by decide, by decide, by decide, by decide, by decide, by decide, by decide, by decide⟩

theorem sound_busy : busy.Sound :=
  ⟨by decide, by decide, by decide, by decide, by decide, by decide, by decide, by decide, by decide, by decide⟩

theorem sound_limited : limited.Sound :=
  ⟨by decide, by decide, by decide, by decide, by decide, by decide, by decide, by decide, by decide, by decide⟩

theorem sound_locked : locked.Sound :=
  ⟨by decide, by decide, by decide, by decide, by decide, by decide, by decide, by decide, by decide, by decide⟩

theorem sound_reading : reading.Sound :=
  ⟨by decide, by decide, by decide, by decide, by decide, by decide, by decide, by decide, by decide, by decide⟩

/-! ## WellFormed refuses ill-formed commands, one for each check -/

theorem test_wf_refuses_long_record : (Instr.configurationReadEnd (List.replicate 65 0#8)).wf = false := by decide

theorem test_wf_refuses_unassigned_source : (Instr.postArrival 17 .purge .raise 0).wf = false := by decide

theorem test_wf_refuses_target_above_sixteen : (Instr.postArrival 25 .purge .raise 17).wf = false := by decide

theorem test_wf_refuses_report_of_no_zone :
    (Instr.reportArrival 0 report).wf = false ∧ (Instr.reportArrival 17 report).wf = false := by decide

theorem test_wf_refuses_stale_of_no_zone :
    (Instr.entryStale 0).wf = false ∧ (Instr.entryStale 17).wf = false := by decide

theorem test_wf_refuses_lost_of_no_zone : (Instr.entryLost 0).wf = false ∧ (Instr.entryLost 17).wf = false := by decide

theorem test_wf_accepts_bounds :
    (Instr.postArrival 16 .purge .raise 16).wf = true ∧ (Instr.reportArrival 16 report).wf = true
    ∧ (Instr.configurationReadEnd (List.replicate 64 0#8)).wf = true := by decide

/-! ## Messages, written byte by byte from section 10.1; a key is `class * 32 + source` -/

/-- The check that R179 describes, on the figures 1 to 9, whose value is the published one of this method. -/
theorem test_check_published : check [49#8, 50#8, 51#8, 52#8, 53#8, 54#8, 55#8, 56#8, 57#8] = 0x29B1#16 := by decide +kernel

theorem test_decode_overload : decodeMessage (withCheck [25#8]) = some .overloadArrival := by decide

theorem test_decode_post :
    decodeMessage (withCheck [62#8, 2#8, 1#8, 5#8]) = some (.postArrival 30 .boost .raise 5) := by decide +kernel

theorem test_decode_budget : decodeMessage (withCheck [89#8, 2#8, 208#8]) = some (.budgetArrival 720#16) := by decide +kernel

theorem test_decode_plant :
    decodeMessage (withCheck [122#8, 1#8, 44#8, 3#8, 208#8, 1#8]) = some (.plantArrival 300#16 976#16 true) := by
  decide +kernel

theorem test_decode_panel :
    decodeMessage (withCheck [152#8, 3#8, 1#8, 96#8]) = some (.panelArrival .economy 352#16) := by decide +kernel

theorem test_decode_report :
    decodeMessage (withCheck [163#8, 0#8, 6#8, 15#8, 45#8, 100#8, 30#8, 100#8, 1#8, 64#8, 255#8, 186#8, 0#8, 64#8]) =
      some (.reportArrival 3
        { state := .running, level := .door, priority := true, door := true, dEl := 45#8, dC := 100#8, cEl := 30#8,
          cC := 100#8, ret := some 320#16, outside := some 0xFFBA#16, flags := flagSetOf 64#16 }) := by decide +kernel

theorem test_decode_request :
    decodeMessage (withCheck [222#8, 2#8, 4#8, 5#8, 3#8, 232#8]) = some (.testOutput 2 5#8 1000#16) := by decide +kernel

/-- R25, R26: a wrong check, a wrong length, a source outside the class's, and an undefined code are dropped. -/
theorem test_decode_refuses :
    decodeMessage [25#8, 0#8, 0#8] = none ∧ decodeMessage (withCheck [25#8, 0#8]) = none
    ∧ decodeMessage (withCheck [24#8]) = none ∧ decodeMessage (withCheck [62#8, 4#8, 1#8, 5#8]) = none := by decide +kernel

/-- The rows of the opcode table carry no bits, so a word spells no command. -/
theorem test_word_spells_nothing : decodeTableWord 16 0 = none ∧ State.reset.withFetchWord 16 0 = State.reset := by decide

/-! ## Sensing: worked conversions, convergence and outside selection of chapter 1 -/

theorem test_sample_conversions :
    sampleTemperature 0 700 = 356 ∧ sampleTemperature 0 650 = 306 ∧ sampleTemperature (-5) 300 = -70
    ∧ sampleTemperature 8 100 = -398 ∧ sampleTemperature 32 20 = -640 ∧ linearise 16 = -720 ∧ linearise 1007 = 1081 := by
  decide

/-- The first good sample seeds; the next moves the filter from 320 by 4, and back from 356 by -4. -/
theorem test_temperatureSample_filters :
    (after (.temperatureSample .ret 700) running).sensing.ret.filtered = some 356
    ∧ filtered (some 320) 356 = 324 ∧ filtered (some 344) 356 = 345 ∧ filtered (some 356) 320 = 352 := by decide

/-- R8: the twentieth good sample in FAULT seeds the channel afresh. -/
theorem test_temperatureSample_recovers :
    (after (.temperatureSample .coil 700) limited).sensing.coil = good 356 := by decide

/-- R12: codes 600 and 1023. -/
theorem test_supplySample :
    (after (.supplySample 600) running).sensing.supply = some 234
    ∧ (after (.supplySample 600) running).interlock.lowDwell = some 2000
    ∧ (after (.supplySample 1023) running).sensing.supply = some 400 := by decide

/-- The worked outside selection: four values, then three. -/
theorem test_median_worked : median [80, 96, 72, 88] = some 80 ∧ median [80, 72, 88] = some 80
    ∧ median [72, 88] = some 72 := by decide

/-! ## Demand and share: the worked passes and allowances of chapters 4 and 5 -/

/-- The inputs of pass 1. -/
def pass1 : PassInputs :=
  { cfg := worked, governing := .auto, setpoint := 352, outside := 80, ownReturn := some 306, neighbours := [320, 301],
    coolant := .cold, heatLimited := false, coolLimited := false }

def record0 : DemandRecord := { DemandRecord.zero with iAcc := 3000 }

theorem test_pass_one :
    let d := controlPass pass1 record0
    d.error = 38 ∧ d.iAcc = 3142 ∧ d.u = 527 ∧ d.stagesWanted = 2 ∧ d.dEl = 3000 ∧ d.coolantTarget = 0 := by decide

theorem test_pass_three :
    let d := controlPass { pass1 with ownReturn := some 310, coolant := .hot, heatLimited := true }
      { record0 with iAcc := 3142 }
    d.iAcc = 3142 ∧ d.u = 477 ∧ d.coolantTarget = 795 ∧ d.stagesWanted = 0 := by decide

theorem test_pass_five :
    let d := controlPass { pass1 with ownReturn := none, coolant := .hot } { record0 with iAcc := 3262 }
    d.tRet = some 310 ∧ d.source = .adjacent ∧ d.iAcc = 3389 ∧ d.u = 481 ∧ d.coolantTarget = 801 := by decide

theorem test_pass_cooling :
    let d := controlPass { pass1 with outside := 560, ownReturn := some 417 } { record0 with u := -450, iAcc := -6000 }
    d.spEff = some 380 ∧ d.error = -29 ∧ d.iAcc = -6108 ∧ d.u = -463 ∧ d.cool = 463 ∧ d.dC = 46 := by decide

/-- The table of the heat split at HOT and Qc 600. -/
theorem test_heat_split :
    coolantSplit worked .hot 1 = 1 ∧ coolantSplit worked .hot 300 = 500 ∧ coolantSplit worked .hot 600 = 1000
    ∧ stagesSplit worked .hot 600 = 0 ∧ stagesSplit worked .hot 601 = 1 ∧ stagesSplit worked .hot 800 = 2
    ∧ stagesSplit worked .hot 1000 = 3 ∧ stagesSplit worked .cold 1 = 1 ∧ stagesSplit worked .cold 601 = 2 := by decide

/-- The peers of the worked allowance, station 3 in DOOR. -/
def shared : ShareInputs :=
  { cfg := worked, own := 2, governing := .auto, frost := .clear, wanted := 2, demandEl := 3000, demandC := 46,
    hold := none, cap := 0
    peers := { busy.peers with
      duplicate := none
      table := [peer 1 .live 0 1500 80 1500 70 none, { peer 3 .live 0 4500 100 3000 100 none with priority := true },
        peer 4 .lost 6000 0 60 0 60 none] } }

theorem test_allowance_worked :
    let r := allowance shared
    r.weightedEl = 14500 ∧ r.shareEl = 1241 ∧ r.headEl = 1500 ∧ r.nEl = 1 ∧ r.heatLimited = true := by decide

theorem test_allowance_cooling :
    let x := { shared with peers := { shared.peers with
      table := [peer 1 .live 0 0 80 0 70 none, peer 3 .live 0 0 100 0 100 none, peer 4 .stale 2000 0 60 0 60 none] } }
    let r := allowance x
    let f := allowance { x with frost := .frost }
    r.weightedC = 286 ∧ r.shareC = 48 ∧ r.headC = 70 ∧ r.aC = 46 ∧ r.coolLimited = false
    ∧ evaporatorTarget worked r.aC = 460 ∧ f.aC = 0 ∧ f.shareC = 48 ∧ f.coolLimited = true := by decide

/-- The rounding and the headroom cut, for Ps 1500. -/
theorem test_allowance_rounding :
    electricAllowance worked 1 1500 620 1500 none 0 = 0 ∧ electricAllowance worked 2 3000 750 1400 none 0 = 0
    ∧ electricAllowance worked 3 4500 2249 6000 none 0 = 1 ∧ electricAllowance worked 3 4500 2250 6000 none 0 = 2
    ∧ electricAllowance worked 3 4500 5000 3000 none 0 = 2 := by decide

/-- The pass of `busy` is that of pass 1 with a HOT coolant; the valve follows it in RUNNING. -/
theorem test_controlPass :
    let t := after .controlPass busy
    t.demand.passTimer = some 1000 ∧ t.demand.record.tRet = some 306 ∧ t.output.coolantPos = t.demand.record.coolantTarget := by
  decide

/-- R92, R93: station 2 sheds its stage, and its hold starts again in full. -/
theorem test_overloadArrival :
    let t := after .overloadArrival busy
    t.output.stagesOn = 0 ∧ t.share.cap = 0 ∧ t.share.hold = some 4000 ∧ t.output.afterRun = some 30000 := by decide

/-- R80: an OVERLOAD in the listen period recomputes; the blind budget comes into use, and no hold starts. -/
theorem test_overload_listening :
    let t := after .overloadArrival listening
    t.share.budgetEl = worked.blindBudget ∧ t.share.hold = none
    ∧ (after .overloadArrival standby).share = standby.share := by decide

theorem test_overloadHoldExpiry :
    let t := after .overloadHoldExpiry busy
    t.share.hold = none ∧ t.share.cap = 0 := by decide

/-! ## The link: worked report timing of chapter 2, station 5 with P = 500 -/

/-- Station 5 of the worked report timing. -/
def five : State := { running with control := { running.control with own := 5, cfg := { worked with zones := 8 } } }

theorem test_first_report_time :
    (after .listenTimerExpiry { listening with control := { listening.control with own := 5 } }).link.firstIn = some 156 := by
  decide

/-- A change 46 ms after a completion waits until 125 ms have passed; one after 140 ms does not wait. -/
theorem test_early_report_spacing :
    ({ Link.initial with sinceReport := some 46 }.notice worked .running).earlyIn = some 79
    ∧ ({ Link.initial with sinceReport := some 140 }.notice worked .running).earlyIn = some 0 := by decide

/-- Periodic reports, P or in STANDBY 4P after the last completion. -/
theorem test_periodic_report :
    { Link.initial with sinceReport := some 163 }.periodicIn worked .running = some 337
    ∧ { Link.initial with sinceReport := some 163 }.periodicIn worked .standby = some 1837 := by decide

theorem test_reportDue :
    (after .reportDue busy).link.reportSlot.map (·.dEl) = some 30#8 := by decide

theorem test_earlyReportDue_and_firstReportDue :
    (after .earlyReportDue busy).link.reportSlot.isSome = true ∧ (after .firstReportDue limited).link.reportSlot.isSome = true
    := by decide

/-- Station 2 with a report waiting, an attempt of it failed fifteen times. -/
def sending : State :=
  let s := { busy with link := { busy.link with earlyIn := none } }
  { s with link := { s.link with
      reportSlot := some s.report, reportCount := 15, line := .busy, incoming := some []
      attempt := some { content := .report s.report, live := true } } }

/-- Station 2 with an OK reply to RESTART being sent, and the restart pending. -/
def replying : State :=
  let r : Reply := { kind := .restart, result := .ok, payload := [] }
  { standby with
    control := { standby.control with restartPending := true }
    link := { Link.initial with
      replySlot := some r, line := .busy, incoming := some [], attempt := some { content := .reply r, live := true } } }

/-- A report waiting for the idle line, a reply waiting, and nothing to send. -/
def waiting : State :=
  { busy with link := { busy.link with earlyIn := none, reportSlot := some { busy with link := busy.link }.report } }

theorem test_attemptBegin :
    let s := { sending with link := { sending.link with line := .idle, attempt := none } }
    (after .attemptBegin s).link.attempt = sending.link.attempt ∧ after .attemptBegin sending = sending := by decide

theorem test_attemptComplete :
    (after .attemptComplete sending).link.reportSlot = none ∧ (after .attemptComplete sending).link.sinceReport = some 0
    := by decide

/-- R24, R35: the sixteenth failure discards. -/
theorem test_contentionLoss_and_attemptError :
    (after .contentionLoss sending).link.reportSlot = none ∧ (after .attemptError sending).link.sinceDiscard = some 0
    ∧ (after .attemptError replying).link.replyCount = 1 := by decide

theorem test_lineIdle_and_receptionDrop :
    (after .lineIdle reading).link.line = .idle ∧ (after (.receptionDrop []) busy).link.line = .busy
    ∧ after (.receptionDrop []) reading = reading := by decide

/-! ## The line, level by level -/

/-- Station 2 on an idle line, waiting for a start bit. -/
def idle : Link := { Link.initial with line := .idle }

/-- R19: a character is 0, the byte, 1; BUDGET's key 89 is 0 1 0 1 1 0 0 1 (worked contention of chapter 2). -/
theorem test_characterBits :
    messageBits [89#8] = [false, false, true, false, true, true, false, false, true, true] := by decide

/-- R19: a 0 on an idle line is a start bit and makes it busy; from a cold start eleven 1s do not make it idle and the
twelfth does. -/
theorem test_readLevel_start_and_idle :
    (idle.readLevel 2 false).1.line = .busy
    ∧ (Link.initial.readLevels 2 (List.replicate 11 true)).2 = []
    ∧ (Link.initial.readLevels 2 (List.replicate 12 true)).2 = [.lineIdle]
    ∧ (Link.initial.readLevels 2 (false :: List.replicate 12 true)).2 = [.lineIdle] := by decide

/-- R25: the bits of a BUDGET and the 1 after them bring its arrival; with a byte more after its check, or cut short, they
bring a drop; with a wrong stop bit a drop at once. -/
theorem test_readLevel_reception :
    (idle.readLevels 2 (messageBits (withCheck [89#8, 0#8, 45#8]) ++ [true])).2 = [.budgetArrival 45#16]
    ∧ (idle.readLevels 2 (messageBits (withCheck [89#8, 0#8, 45#8] ++ [7#8]) ++ [true])).2
        = [.receptionDrop (withCheck [89#8, 0#8, 45#8] ++ [7#8])]
    ∧ (idle.readLevels 2 (messageBits [89#8, 0#8] ++ List.replicate 12 true)).2 = [.receptionDrop [89#8, 0#8], .lineIdle]
    ∧ (idle.readLevels 2 (List.replicate 10 false)).2 = [.receptionDrop [0#8]] := by decide +kernel

/-- The worked contention of chapter 2: a zone's REPORT against the BUDGET of key 89 loses at the first key bit and takes
the BUDGET in. -/
theorem test_readLevel_contention :
    let l := sending.link
    let lost := (l.readLevels 2 [false, false]).1.fail
    (l.readLevels 2 [false, false]).2 = [.contentionLoss]
    ∧ (lost.readLevels 2 ((messageBits (withCheck [89#8, 0#8, 45#8])).drop 2 ++ [true])).2 = [.budgetArrival 45#16] := by
  decide +kernel

/-- R21, R22: a start bit that reads 1, and a 0 of the key that reads 1, are attempt errors. -/
theorem test_readLevel_errors :
    (sending.link.readLevels 2 [true]).2 = [.attemptError]
    ∧ (sending.link.readLevels 2 [false, true, true]).2 = [.attemptError] := by decide +kernel

/-- R20: a report that falls due within another's message does not begin an attempt; with the line idle again it does. -/
theorem test_slot_filled_within_message :
    let s := { waiting with link := (waiting.link.readLevel 2 false).1 }
    s.link.reportSlot.isSome = true ∧ .attemptBegin ∉ s.due ∧ .attemptBegin ∈ (after .lineIdle s).due := by decide

/-- The first level that the line carries is read by the next step. -/
theorem test_step_reads_wire :
    (match step ({ running with link := idle }.hear [false, true]) with
     | .next t => t.link.line = .busy ∧ t.wire = [true] ∧ t.micros = 16
     | _ => False) := ⟨rfl, rfl, rfl⟩

/-- R19, R36: before an idle line has been read, an arrival and a request are not taken in. -/
theorem test_unread_line_takes_nothing :
    let s := { running with link := Link.initial }
    after (.budgetArrival 45#16) s = s ∧ after (.readStatus 2) s = s := by decide

/-- 10.1: the station's own REPORT from zone 5 begins with key 165, its reply with key 197. -/
theorem test_own_messages :
    (Content.message 5 (.report report)).length = 16
    ∧ (Content.message 5 (.report report)).take 2 = [165#8, 0#8]
    ∧ (Content.message 5 (.reply { kind := .restart, result := .ok, payload := [] })).take 4 = [197#8, 6#8, 0#8, 0#8] := by
  decide +kernel

/-! ## Arrivals and peers -/

/-- R51: a BUDGET of 720 units is stored as 60000 W. -/
theorem test_budgetArrival : (after (.budgetArrival 720#16) busy).peers.budget = { heard := some 60000, silence := some 5000 } := by
  decide

/-- R52: the blind budget comes into use. -/
theorem test_budgetTimeout :
    let t := after .budgetTimeout { busy with peers := { busy.peers with duplicate := none } }
    t.peers.budget = { heard := some 6000, silence := none } ∧ t.share.budgetEl = worked.blindBudget := by decide

/-- R55: 976 is HOT, 880 to 959 leaves it, below is COLD. -/
theorem test_plantArrival :
    (after (.plantArrival 300#16 976#16 false) running).peers.coolant = .hot
    ∧ (after (.plantArrival 300#16 880#16 false) busy).peers.coolant = .hot
    ∧ (after (.plantArrival 300#16 879#16 false) busy).peers.coolant = .cold := by decide

theorem test_plantTimeout : (after .plantTimeout busy).peers.coolant = .cold := by decide

/-- The nesting sequence at 120000: the panel leaves ECONOMY for VENT beneath PRECOND. -/
theorem test_panel_change :
    let a := Arbiter.panelChange .economy .vent true
      { Arbiter.initial with
        active := { Marks.none with economy := true, precond := true }, governing := .precond
        stack := [{ mode := .economy, retired := false }, { mode := .auto, retired := false }]
        precondTimer := some 1740000 }
    a.pending = { Marks.none with vent := true } ∧ a.governing = .precond
    ∧ a.stack = [{ mode := .economy, retired := true }, { mode := .auto, retired := false }] := by decide

theorem test_panelArrival :
    (after (.panelArrival .off 352#16) busy).control.state = .standby
    ∧ (after (.panelArrival .auto 352#16) { standby with peers := { standby.peers with
        panel := { mode := .off, setpoint := 352, silence := none } } }).control.state = .running
    ∧ (after .panelTimeout busy).peers.panel.silence = none := by decide

theorem test_reportArrival :
    entryFor 3 (after (.reportArrival 3 report) running).peers.table = some { entryOf 3 report with ret := some 320 }
    ∧ (after (.reportArrival 2 report) running).peers.duplicate = some 6000
    ∧ (after (.reportArrival 5 report) running).peers.table = [] := by decide

theorem test_entries_age :
    (entryFor 3 (after (.entryStale 3) busy).peers.table).map (·.state) = some .stale
    ∧ (entryFor 3 (after (.entryLost 3) busy).peers.table).map (·.state) = some .lost
    ∧ (entryFor 1 (after (.entryStale 3) busy).peers.table).map (·.state) = some .live := by decide

theorem test_duplicateTimerExpiry : (after .duplicateTimerExpiry busy).peers.duplicate = none := by decide

/-! ## Modes: the worked nesting sequence of chapter 6 -/

/-- The arbiter at 300000, PURGE just deferred. -/
def nested : Arbiter :=
  { Arbiter.initial with
    pending := { Marks.none with vent := true, purge := true, door := true }
    active := { Marks.none with precond := true, boost := true }, governing := .boost
    stack := [{ mode := .precond, retired := false }, { mode := .economy, retired := true },
      { mode := .auto, retired := false }]
    precondTimer := some 1500000, boostTimer := some 480000, ownDoor := true, cause := true }

/-- At 300000: a raise over a full stack stays pending. -/
theorem test_raise_deferred :
    Arbiter.raise .purge { nested with pending := { nested.pending with purge := false } } = nested := by decide

/-- At 360000: BOOST ends, and DOOR is taken over PRECOND. -/
theorem test_end_takes_door :
    let a := nested.finish .boost
    a.governing = .door ∧ a.pending = { Marks.none with vent := true, purge := true } ∧ a.stack = nested.stack
    ∧ a.boostTimer = none := by decide

/-- At 900000: the END of PRECOND discards the retired ECONOMY, and VENT is taken over AUTO. -/
theorem test_end_discards_retired :
    let a := Arbiter.finish .precond
      { nested with
        pending := { Marks.none with vent := true }, active := { Marks.none with precond := true }, governing := .precond
        stack := [{ mode := .economy, retired := true }, { mode := .auto, retired := false }] }
    a.governing = .vent ∧ a.stack = [{ mode := .auto, retired := false }] ∧ a.pending = .none
    ∧ a.precondTimer = none := by decide

theorem test_postArrival :
    (after (.postArrival 30 .boost .raise 2) running).arbiter.governing = .boost
    ∧ (after (.postArrival 30 .boost .raise 2) running).arbiter.boostTimer = some 600000
    ∧ (after (.postArrival 30 .boost .raise 3) running).arbiter = running.arbiter := by decide

theorem test_modeTimerExpiry : (after (.modeTimerExpiry .purge) limited).arbiter.governing = .precond := by decide

theorem test_door_input :
    (after .doorInputOpen running).arbiter.dwell = some 1000
    ∧ (after .doorInputClose busy).arbiter.dwell = none ∧ (after .doorDwellExpiry busy).arbiter.ownDoor = true
    ∧ (after .doorTailExpiry busy).arbiter.governing = .boost := by decide

/-! ## Outputs: the worked timeline of chapter 7 -/

/-- At 5200: the fan is proven and stage 1 goes on, with stage 2 committed. -/
theorem test_fanProven :
    let s := { running with
      share := { Share.initial with nEl := 2, budgetEl := 6000 }
      output := { running.output with
        stageTarget := 2, seq := .waiting, upDelay := none, proof := .counting 5000, fanPos := 400 } }
    let t := after .fanProven s
    t.output.stagesOn = 1 ∧ t.output.seq = .steppingUp ∧ t.output.upDelay = some 3500
    ∧ t.output.electricClaim worked = 3000 := by decide

/-- The output stage with two stages on, as at 9000. -/
def stepped : Output :=
  { running.output with
    stagesOn := 2, stageTarget := 2, seq := .settled, upDelay := some 2500, proof := .proven, fanPos := 400 }

/-- At 10000 and 10500: the target falls to 0, and the stages go off 500 ms apart. -/
theorem test_step_down :
    let o := stepped.takeStageTarget 2 0
    let p := { o with downDelay := none }.settle 2
    o.stagesOn = 1 ∧ o.downDelay = some 500 ∧ p.stagesOn = 0 ∧ p.downDelay = some 500 ∧ p.afterRun = some 30000
    ∧ ({ p with downDelay := none }.settle 2).seq = .settled := by decide

theorem test_delay_expiries :
    (after .stepUpDelayExpiry busy).output.upDelay = none
    ∧ (after .stepDownDelayExpiry limited).output.seq = .settled
    ∧ (after .afterRunExpiry limited).output.afterRun = none := by decide

/-- At 100 and 200: the fan slews by 50 to its effective target of 400, where the proof starts. -/
theorem test_fanTick :
    let o := { running.output with stageTarget := 2, seq := .waiting, fanTarget := 325, fanPos := 325 }
    let t := after .fanTick { running with output := o }
    let u := after .fanTick t
    t.output.fanPos = 375 ∧ t.output.proof = .idle ∧ u.output.fanPos = 400 ∧ u.output.proof = .counting 0 := by decide

theorem test_damperTick : (after .damperTick limited).output.damperPos = 100 := by decide

/-! ## Interlocks: the worked sequences of chapter 8 -/

/-- At 100, 45100 and 105100: a trip, the cooldown and its end. -/
theorem test_trip_and_cooldown :
    let t := after .openDwellExpiry { busy with interlock := { busy.interlock with tripList := [] } }
    let u := after .heatLimitClose t
    let v := after .cooldownExpiry u
    t.interlock.trip = .tripped ∧ t.interlock.tripList = [0] ∧ t.interlock.ceiling = 0 ∧ t.output.stagesOn = 0
    ∧ u.interlock.trip = .cooldown ∧ u.interlock.cooldown = some 60000
    ∧ v.interlock.trip = .normal ∧ v.interlock.ceiling = 3 ∧ v.interlock.tripList = [60000] := by decide

/-- At 660100 and 2000000: the third trip locks, and CLEAR_LOCK with the contact closed leaves NORMAL. -/
theorem test_lock_and_clear :
    (after .openDwellExpiry busy).interlock.trip = .locked
    ∧ (after (.clearLock 2) { locked with pins := running.pins }).interlock = { running.interlock with ceiling := 3 }
    ∧ (after (.clearLock 2) locked).interlock.openDwell = some 100 := by decide

theorem test_heatLimitOpen_and_ageOut :
    (after .heatLimitOpen running).interlock.openDwell = some 100
    ∧ (after .tripEntryAgeOut limited).interlock.tripList = [7] := by decide

theorem test_frost :
    (after .coldDwellExpiry busy).interlock.frost = .frost ∧ (after .coldDwellExpiry busy).share.aC = 0
    ∧ (after .warmDwellExpiry limited).interlock.frost = .clear := by decide

/-- The worked supply sequence: at 3000 into SUPPLY_LOW, at 12000 the recovery dwell stopped, at 23000 out of it. -/
theorem test_supply_low :
    (after .lowDwellExpiry busy).interlock.supply = .low ∧ (after .lowDwellExpiry busy).output.stagesOn = 0
    ∧ (after .recoveryDwellExpiry limited).interlock.supply = .normal := by decide

/-- The worked discharge sequence: a drop and a rise. -/
theorem test_discharge :
    (after .dropTimerExpiry busy).interlock.discharge = 2 ∧ (after .dropTimerExpiry busy).interlock.drop = some 10000
    ∧ (after .riseTimerExpiry limited).interlock.discharge = 2
    ∧ (after .riseTimerExpiry limited).interlock.rise = some 30000 := by decide

/-! ## Life cycle and service: chapter 9 -/

/-- R180: ST2 with ST0 gives 6, and all four give 16. -/
theorem test_coldStart_straps :
    (after (.coldStart 5#4) busy).own = 6 ∧ (after (.coldStart 15#4) busy).own = 16
    ∧ (after (.coldStart 0#4) busy).interlock.tripList = [] := by decide

theorem test_pinReset_keeps_trip :
    (after (.pinReset 1#4) limited).interlock.trip = .cooldown ∧ (after (.pinReset 1#4) limited).control.cause = .pin := by
  decide

theorem test_resetPinLow_and_supplyFall :
    (after .resetPinLow limited).interlock.trip = .cooldown ∧ (after .resetPinLow busy).output.stagesOn = 0
    ∧ (after .logicSupplyFall limited).interlock.trip = .normal := by decide

/-- The fields of the record of the worked start-up: P 500, Z 8, S_n 4, fan_heat_min 400. -/
def startFields : List Byte :=
  [8#8, 1#8, 244#8, 0#8, 0#8, 0#8, 4#8] ++ List.replicate 10 0#8 ++ [1#8, 144#8] ++ List.replicate 43 0#8

/-- At 30: S_n is clamped to 3, with CFG_CLAMPED; a supply entry of 0 is clamped to 220, its exit to 225. -/
theorem test_configuration_settled :
    let l := settleConfiguration 5 (withCheck startFields)
    l.cfg.stages = 3 ∧ l.cfg.zones = 8 ∧ l.cfg.period = 500 ∧ l.cfg.fanHeatMin = 400 ∧ l.cfg.supplyEntry = 220
    ∧ l.cfg.supplyExit = 225 ∧ l.cfgClamped = true ∧ l.cfgDefault = false := by
  rw [settleConfiguration_withCheck 5 (by decide)]
  decide

/-- R167, R168: a read of fewer than 64 bytes gives the defaults, with Kp 200, and the listen period of 2P begins. -/
theorem test_configurationReadEnd :
    let t := after (.configurationReadEnd []) reading
    t.control.cfgDefault = true ∧ t.cfg.kp = 200 ∧ t.control.listen = some 1000 ∧ t.output.upDelay = some 3250 := by decide

/-- At 1030: a HEARD OFF leads to STANDBY, anything else to RUNNING. -/
theorem test_listenTimerExpiry :
    (after .listenTimerExpiry listening).control.state = .running
    ∧ (after .listenTimerExpiry { listening with peers := { listening.peers with
        panel := { mode := .off, setpoint := 352, silence := some 29000 } } }).control.state = .standby := by decide

/-- At 1200 and 2000: TEST_OUTPUT STAGE1, then FAN 700. -/
theorem test_testOutput :
    let t := after (.testOutput 2 5#8 1000#16) standby
    let u := after (.testOutput 2 1#8 700#16) t
    t.control.state = .test ∧ t.control.test = some 120000 ∧ t.output.seq = .waiting ∧ t.output.stageTarget = 1
    ∧ u.output.fanTarget = 700 ∧ u.output.stageTarget = 1 := by decide

/-- At 650: TEST_OUTPUT in the listen period is refused. -/
theorem test_testOutput_refused :
    (after (.testOutput 2 1#8 700#16) listening).link.replySlot =
      some { kind := .testOutput, result := .refused, payload := [] } := by decide

theorem test_endTest_and_testTimerExpiry :
    (after (.endTest 2) testing).control.state = .standby ∧ (after .testTimerExpiry testing).control.state = .standby
    ∧ (after (.endTest 2) standby).link.replySlot = some { kind := .endTest, result := .refused, payload := [] } := by
  decide

/-- At 31000 and 31001: a restart, then a request answered BUSY, at whose replacement of the OK the restart takes effect. -/
theorem test_restart :
    let t := after (.restart 2) standby
    let u := after (.readConfig 2) t
    t.control.restartPending = true ∧ t.restartDue = false
    ∧ u.link.replySlot = some { kind := .readConfig, result := .busy, payload := [] }
    ∧ u.control.state = .starting ∧ u.control.cause = .restart ∧ u.control.listen = some 1000 := by decide

/-- R176: the restart takes effect as the OK's attempt completes, and not at its first failure. -/
theorem test_restart_at_completion :
    (after .attemptComplete replying).control.state = .starting
    ∧ (after .attemptError replying).control.state = .standby
    ∧ (after .attemptError { replying with link := { replying.link with replyCount := 15 } }).control.state = .starting := by
  decide

theorem test_restartTakesEffect :
    let s := { limited with control := { limited.control with restartPending := true } }
    let t := after .restartTakesEffect s
    t.control.state = .starting ∧ t.control.cause = .restart ∧ t.interlock.trip = .cooldown
    ∧ t.interlock.frost = .clear ∧ t.sensing = s.sensing := by decide

/-- 10.1: READ_PEER's 17 bytes; a number with no entry is NOT_PRESENT. -/
theorem test_readPeer :
    (after (.readPeer 2 3#8) busy).link.replySlot =
      some { kind := .readPeer, result := .ok, payload :=
        [3#8, 0#8, 5#8, 220#8, 0#8, 0#8, 8#8, 45#8, 100#8, 30#8, 100#8, 0#8, 0#8, 0#8, 96#8, 0#8, 0#8] }
    ∧ (after (.readPeer 2 9#8) busy).link.replySlot =
      some { kind := .readPeer, result := .notPresent, payload := List.replicate 17 0#8 } := by decide

/-- 10.1: the payload's length, its last byte (the effective ceiling) and the RETURN value, its presence byte and 306. -/
theorem test_readStatus :
    (statusPayload limited).length = 249 ∧ (statusPayload limited).getD 248 0#8 = 0#8
    ∧ ((statusPayload busy).drop 14).take 3 = [1#8, 1#8, 50#8] := by decide +kernel

/-! ## Time -/

/-- With nothing due a step lets one millisecond pass. -/
theorem test_idle_step :
    running.due = [] ∧ (match step running with | .next t => t = running.elapse 1 | _ => False)
    ∧ (running.elapse 1).demand.passTimer = some 999 := ⟨by decide, rfl, rfl⟩

/-- R78: where the first report and a pass come due together (station 16, P = 1000), the report goes first, and its attempt
begins, before the pass. -/
theorem test_first_report_before_pass :
    let s := { running with
      link := { idle with firstIn := some 0 }, demand := { running.demand with passTimer := some 0 } }
    s.due = [.firstReportDue, .controlPass] ∧ s.next = [.firstReportDue]
    ∧ (after .firstReportDue s).next = [.attemptBegin]
    ∧ (after .attemptBegin (after .firstReportDue s)).next = [.controlPass] := by decide

/-! ## Witnesses: stations and operands that meet the hypotheses of each statement, clause by clause -/

/-- The branches of an empty queue, and an event that is due. -/
theorem witness_EmptyQueueWaitsOrQueuesDueEvent :
    (running.restartDue = false ∧ running.pending = [] ∧ running.due = [] ∧ running.wire = [])
    ∧ (let s := { running with wire := [true], micros := 984 }; s.pending = [] ∧ s.due = [] ∧ s.micros < 1000)
    ∧ (let s := { running with demand := { running.demand with passTimer := some 0 } }
       s.pending = [] ∧ s.due = [.controlPass] ∧ s.fallsDue .controlPass = true)
    ∧ (let s := { running with
         link := { idle with reportSlot := some running.report }, demand := { running.demand with passTimer := some 0 } }
       s.pending = [] ∧ s.due = [.attemptBegin, .controlPass] ∧ s.fallsDue .attemptBegin = true
       ∧ s.control.state ≠ .starting ∧ s.link.reportSlot.isSome ∧ s.link.sinceReport = none ∧ s.link.sinceDiscard = none)
    ∧ (let s := { running with link := { idle with firstIn := some 0 } }
       s.pending = [] ∧ s.due = [.firstReportDue] ∧ s.link.firstIn = some 0) := by
  decide

/-- Every kind of timer, age and count stands in `busy` and `limited`; ages that stop at their ends. -/
theorem witness_TimePasses :
    busy.Sound ∧ limited.Sound ∧ (limited.elapse 1).interlock.tripList = [1800000, 8]
    ∧ ((busy.elapse 1).peers.table.map (·.age)) = [1, 1501, 6000] := ⟨sound_busy, sound_limited, by decide, by decide⟩

/-- A start bit on an idle line; messages of another station at a whole character, before a stop bit, and one that the
twelfth 1 cuts short; and an attempt at its start, in its key, before a stop bit, at a whole character and at its last bit. -/
theorem witness_LineLevelsRead :
    (idle.attempt = none ∧ idle.incoming = none ∧ idle.line = .idle)
    ∧ (∀ bits ∈ [messageBits [89#8], (messageBits [89#8]).take 9, [false, true]],
        let l := { idle with line := .busy, ones := 11, incoming := some bits }
        l.attempt = none ∧ l.incoming.getD [] ≠ [])
    ∧ (messageBits [89#8]).length % 10 = 0 ∧ ((messageBits [89#8]).take 9).length % 10 = 9
    ∧ (let sent := messageBits (Content.message 2 (.report sending.report))
       sending.link.attempt = some { content := .report sending.report, live := true } ∧ sent.length = 160
       ∧ ∀ n ∈ [0, 1, 9, 10, 159], n < sent.length
         ∧ { sending.link with incoming := some (sent.take n) }.incoming = some (sent.take n)) := by
  decide +kernel

theorem witness_MessageBitsReadAndSent :
    (Instr.budgetArrival 45#16).wf = true
    ∧ encodeMessage (.budgetArrival 45#16) = some (withCheck [89#8, 0#8, 45#8])
    ∧ idle.attempt = none ∧ idle.incoming = none ∧ idle.line = .idle ∧ Link.initial.line ≠ .idle ∧ [7#8] ≠ []
    ∧ sending.link.attempt = some { content := .report sending.report, live := true } ∧ sending.link.incoming = some [] :=
  ⟨by decide, rfl, by decide⟩

theorem witness_MessagesReadAsWritten :
    (Instr.postArrival 16 .precond .finish 16).wf = true
    ∧ encodeMessage (.postArrival 16 .precond .finish 16) = some (withCheck [48#8, 3#8, 2#8, 16#8]) := ⟨by decide, rfl⟩

theorem witness_AcceptedMessagesAreInTable :
    decodeMessage (withCheck [48#8, 3#8, 2#8, 16#8]) = some (.postArrival 16 .precond .finish 16) := by decide +kernel

/-- The three cases of the filter, each at a gap of 1 or none. -/
theorem witness_FilterAndOutsideSelection_filter :
    filtered (some 320) 320 = 320 ∧ filtered (some 319) 320 = 320 ∧ filtered (some 321) 320 = 320 := by decide

/-- `busy` hears two outside temperatures from its LIVE neighbours. -/
theorem witness_MedianOfLiveOutsideTemperatures :
    busy.Sound ∧ (busy.peers.table.filter (·.state = .live)).filterMap (·.outside) = [80, 96] :=
  ⟨sound_busy, by decide⟩

/-- The ends of R63's ranges. -/
theorem witness_WeatherCompensation :
    summerCompensation 447 = 0 ∧ summerCompensation 451 = 0 ∧ summerCompensation 452 = 1 ∧ summerCompensation 639 = 47
    ∧ summerCompensation 640 = 48 ∧ winterCompensation 0 = 0 ∧ winterCompensation (-7) = 0 ∧ winterCompensation (-8) = 1
    ∧ winterCompensation (-127) = 15 ∧ winterCompensation (-128) = 16 := by decide

/-- The settings of the worked sequence with another Qc. -/
def sharing (qc : Nat) : Settings := { worked with coolantShare := qc }

/-- Settings in range for each row of R74's table, with the outputs at their ends. -/
theorem witness_HeatSplit :
    (sharing 0).InRange ∧ (sharing 1).InRange ∧ (sharing 999).InRange ∧ (sharing 1000).InRange
    ∧ (splitDemand (sharing 1) .hot 1000 .zero).stagesWanted = 3
    ∧ (splitDemand (sharing 999) .hot 999 .zero).coolantTarget = 1000
    ∧ (splitDemand worked .cold (-1000) .zero).dC = 100 :=
  ⟨by decide, by decide, by decide, by decide, by decide, by decide, by decide⟩

/-- A hold pass, a pass with a return value, and VENT with and without one. -/
theorem witness_ControlPassRecord :
    (running.passInputs.governing ≠ .vent ∧ running.passInputs.ownReturn = none ∧ running.passInputs.neighbours = [])
    ∧ (busy.passInputs.governing ≠ .vent ∧ busy.passInputs.ownReturn = some 306)
    ∧ ({ pass1 with governing := .vent }.governing = .vent) := by decide

/-- Inputs with DUPLICATE, a hold, FROST, Ps 0, and records HEARD and SILENT. -/
theorem witness_AllowanceWithinBudgets :
    (shared.demandEl = shared.wanted * shared.cfg.stagePower ∧ 0 < shared.cfg.stagePower ∧ shared.hold = none
      ∧ shared.peers.duplicate = none ∧ shared.frost = .clear)
    ∧ (busy.shareInputs.demandEl = busy.shareInputs.wanted * busy.shareInputs.cfg.stagePower
      ∧ busy.shareInputs.hold.isSome ∧ busy.shareInputs.peers.duplicate.isSome)
    ∧ limited.shareInputs.frost = .frost
    ∧ (let x := { running.shareInputs with cfg := { worked with stagePower := 0 } }
       x.demandEl = x.wanted * x.cfg.stagePower ∧ x.cfg.stagePower = 0) := by decide

theorem witness_SharesInProportion :
    0 < shared.demandEl ∧ 0 < shared.demandC ∧ running.shareInputs.demandEl = 0 ∧ running.shareInputs.demandC = 0 := by
  decide

theorem witness_HeadroomLeavesHeardClaims :
    busy.Sound ∧ (allowance { busy.shareInputs with governing := .auto, wanted := 3, demandEl := 4500, demandC := 0 }).headEl
      = worked.blindBudget - 4500 := ⟨sound_busy, by decide⟩

/-- Own numbers 1 and 16, a record whose check is good and one that is cut short. -/
theorem witness_ConfigurationSettled :
    (checked ((withCheck startFields).take 64)).isSome = true ∧ (withCheck startFields).length = 64
    ∧ (settleConfiguration 16 []).cfg.zones = 16 ∧ (settleConfiguration 1 []).cfg.zones = 2
    ∧ (settleConfiguration 2 []).cfgClamped = false ∧ (settleConfiguration 3 []).cfgClamped = true := by
  refine ⟨?_, by decide, by decide, by decide, by decide, by decide⟩
  rw [List.take_of_length_le (by decide), checked_withCheck]
  rfl

/-- A release that is a pin reset, one that ends a cold hold, and one without supply. -/
theorem witness_ColdStartAndPinResetBegin :
    (limited.pins.powered = true ∧ ¬(limited.pins.resetLow = true ∧ limited.pins.holdIsCold = true))
    ∧ (heldCold.pins.powered = true ∧ heldCold.pins.resetLow = true ∧ heldCold.pins.holdIsCold = true)
    ∧ dead.pins.powered = false := by decide

theorem witness_StationStops :
    heldCold.pins.resetLow = true ∧ (dead.pins.resetLow = false ∧ dead.pins.powered = false)
    ∧ (busy.pins.resetLow = false ∧ busy.pins.powered = true) := by decide

theorem witness_ConfigurationReadEnds :
    reading.Sound ∧ reading.awake = true ∧ reading.control.reading = true := ⟨sound_reading, by decide, by decide⟩

/-- A station in its listen period that hears a panel at OFF. -/
def listeningOff : State :=
  { listening with peers := { listening.peers with panel := { mode := .off, setpoint := 352, silence := some 29000 } } }

theorem sound_listeningOff : listeningOff.Sound :=
  ⟨by decide, by decide, by decide, by decide, by decide, by decide, by decide, by decide, by decide, by decide⟩

/-- A HEARD OFF and none. -/
theorem witness_ListenPeriodEnds :
    (listening.Sound ∧ listening.control.listen = some 1000 ∧ listening.peers.panel.silence = none)
    ∧ (listeningOff.Sound ∧ listeningOff.control.listen = some 1000
      ∧ (listeningOff.elapse 1000).peers.panel.silence = some 28000) :=
  ⟨⟨sound_listening, by decide, by decide⟩, sound_listeningOff, by decide, by decide⟩

/-- A restart pending with its OK sent. -/
def restarting : State := { limited with control := { limited.control with restartPending := true } }

theorem witness_RestartTakesEffect :
    { restarting with control := { restarting.control with restartPending := false } }.Sound
    ∧ restarting.control.restartPending = true ∧ restarting.link.holdsRestartOk = false :=
  ⟨sound_limited, by decide, by decide⟩

theorem witness_TestEndsInStandby :
    testing.control.test = some 120000 ∧ testing.Judges 2 ∧ testing.control.state = .test := by decide

/-- The codes at which the classes meet, at a channel in GOOD, one in FAULT, and FRESH not fitted. -/
theorem witness_TemperatureSampleTaken :
    limited.Sound ∧ limited.acting = true
    ∧ badKind 15 = some .short ∧ badKind 16 = none ∧ badKind 1007 = none ∧ badKind 1008 = some .open
    ∧ (limited.sensing.channel .coil).state = .fault ∧ (limited.sensing.channel .ret).state = .good
    ∧ (let s := { running with control := { running.control with cfg := { worked with freshFitted := false } } }
       s.SensingSound ∧ s.acting = true) :=
  ⟨sound_limited, by decide⟩

/-- OWN, PEERS, HELD and DEFAULT. -/
theorem witness_FilterAndOutsideSelection :
    (selectOutside true [] busy.sensing).source = .own
    ∧ (selectOutside false busy.peers.table busy.sensing).source = .peers
    ∧ (selectOutside false [] busy.sensing).source = .held ∧ (selectOutside true [] running.sensing).source = .default := by
  decide

theorem witness_FrostMachineMoves :
    busy.Sound ∧ busy.acting = true ∧ busy.interlock.coldDwell = some 10000 ∧ limited.interlock.warmDwell = some 60000
    ∧ (after (.temperatureSample .coil 1023)
        { busy with sensing := { busy.sensing with coil := { good 10 with badRun := 4 } } }).interlock.frost = .frost :=
  ⟨sound_busy, by decide⟩

theorem witness_DischargeLimitMoves :
    busy.Sound ∧ busy.acting = true ∧ busy.interlock.drop = some 10000 ∧ limited.Sound
    ∧ limited.interlock.rise = some 30000 := ⟨sound_busy, by decide, by decide, sound_limited, by decide⟩

theorem witness_SupplyMachineMoves :
    busy.Sound ∧ busy.acting = true ∧ busy.interlock.lowDwell = some 2000 ∧ limited.Sound
    ∧ limited.interlock.recovery = some 10000 := ⟨sound_busy, by decide, by decide, sound_limited, by decide⟩

theorem sound_waiting : waiting.Sound :=
  ⟨by decide, by decide, by decide, by decide, by decide, by decide, by decide, by decide, by decide, by decide⟩

theorem witness_AttemptsBeginOnIdleLine :
    waiting.Sound ∧ waiting.awake = true ∧ waiting.link.reportSlot.isSome ∧ waiting.link.line = .idle
    ∧ waiting.link.attempt = none ∧ busy.link.reportSlot = none ∧ busy.link.replySlot = none
    ∧ (after (.readStatus 2) busy).link.replySlot.isSome :=
  ⟨sound_waiting, by decide, by decide, by decide, by decide, by decide, by decide, by decide⟩

theorem sound_sending : sending.Sound :=
  ⟨by decide, by decide, by decide, by decide, by decide, by decide, by decide, by decide, by decide, by decide⟩

theorem sound_replying : replying.Sound :=
  ⟨by decide, by decide, by decide, by decide, by decide, by decide, by decide, by decide, by decide, by decide⟩

/-- A report at its sixteenth failure, the OK to RESTART at its first and at its end, and a reply that has left its
slot. -/
theorem witness_AttemptsEnd :
    sending.Sound ∧ sending.awake = true
    ∧ sending.link.attempt = some { content := .report sending.report, live := true }
    ∧ sending.link.reportCount = 15 ∧ replying.Sound ∧ replying.awake = true
    ∧ (replying.link.attempt.map (·.content.isReport)) = some false ∧ replying.control.restartPending = true
    ∧ (after (.readStatus 2) replying).link.attempt.map (·.live) = some false :=
  ⟨sound_sending, by decide, by decide, by decide, sound_replying, by decide, by decide, by decide, by decide⟩

/-- The periodic, the early and the first report, each to come at an empty slot. -/
theorem witness_ReportsFallDue :
    (busy.Sound ∧ busy.link.reportSlot = none ∧ busy.control.state ≠ .starting ∧ busy.link.sinceReport = some 100
      ∧ busy.link.earlyIn = some 25)
    ∧ (limited.Sound ∧ limited.link.reportSlot = none ∧ limited.control.state ≠ .starting
      ∧ limited.link.firstIn = some 62) :=
  ⟨⟨sound_busy, by decide, by decide, by decide, by decide⟩, sound_limited, by decide, by decide, by decide⟩

theorem witness_ReportContent : busy.Sound ∧ busy.control.state ≠ .starting := ⟨sound_busy, by decide⟩

/-- A change that makes an early report due, and one noted during an attempt. -/
theorem witness_EarlyReportsFollowChanges :
    (limited.flags ≠ (after .warmDwellExpiry limited).flags ∧ limited.control.state ≠ .starting
      ∧ limited.link.earlyIn = none ∧ (after .warmDwellExpiry { limited with link := { limited.link with
          firstIn := none } }).link.earlyIn = some 0)
    ∧ (sending.flags ≠ (after .lowDwellExpiry sending).flags ∧ (after .lowDwellExpiry sending).link.changed = true) := by
  decide

/-- A dropped message, a request to station 3, and a message while reading; a line whose idle has not been read, and a
station without supply. -/
theorem witness_MessagesPassedOver :
    (running.awake = true ∧ running.link.line ≠ .unread ∧ requestOfCommand (.readStatus 3) = some (.readStatus, 3)
      ∧ running.own ≠ 3 ∧ isArrival (.budgetArrival 0#16) = true)
    ∧ (let s := after .lineIdle reading; s.awake = true ∧ s.link.line = .idle ∧ s.control.reading = true)
    ∧ (reading.awake = true ∧ reading.link.line = .unread) ∧ dead.awake = false := by decide

theorem witness_SourcesHeardAndSilent :
    busy.Hears ∧ busy.peers.budget.silence = some 5000 ∧ busy.peers.plant.silence = some 5000 := by decide

/-- RUNNING with OFF and without it, STANDBY and TEST, and a panel to fall silent. -/
theorem witness_PanelHeardAndSilent :
    (busy.Sound ∧ busy.Hears ∧ busy.control.state = .running ∧ busy.peers.panel.silence = some 30000)
    ∧ (standby.Sound ∧ standby.Hears) ∧ (testing.Sound ∧ testing.Hears)
    ∧ (listening.Sound ∧ listening.Hears) :=
  ⟨⟨sound_busy, by decide⟩, ⟨sound_standby, by decide⟩, ⟨sound_testing, by decide⟩, sound_listening, by decide⟩

/-- The own number, numbers 0 and Z + 1, and the ends 1 and Z of the range, with DUPLICATE set and clear. -/
theorem witness_ReportArrivalKept :
    busy.Sound ∧ busy.Hears ∧ busy.own = 2 ∧ busy.cfg.zones = 4 ∧ busy.peers.duplicate.isSome
    ∧ running.Sound ∧ running.Hears ∧ running.peers.duplicate = none :=
  ⟨sound_busy, by decide, by decide, by decide, by decide, sound_running, by decide, by decide⟩

theorem witness_EntriesAgeAndDuplicateEnds :
    busy.Sound ∧ entryFor 3 busy.peers.table = some (peer 3 .live 1500 4500 100 3000 100 (some 96))
    ∧ 3 * busy.cfg.period - 1500 = 0 ∧ busy.peers.duplicate = some 6000 := ⟨sound_busy, by decide⟩

/-- A stage on in RUNNING, none on in RUNNING, none in STANDBY and in the listen period, and a hold to end. -/
theorem witness_OverloadShedsAndHoldEnds :
    (busy.Sound ∧ busy.Hears ∧ busy.output.stagesOn = 1)
    ∧ (running.Sound ∧ running.Hears ∧ running.output.stagesOn = 0)
    ∧ (standby.Sound ∧ standby.Hears ∧ standby.control.state = .standby)
    ∧ (listening.Sound ∧ listening.Hears ∧ listening.control.state = .starting) ∧ busy.share.hold = some 4000 :=
  ⟨⟨sound_busy, by decide⟩, ⟨sound_running, by decide⟩, ⟨sound_standby, by decide⟩, ⟨sound_listening, by decide⟩,
    by decide⟩

/-- A pending mode, an active untimed and an active timed one, the governing one, a buried one and one that is neither
pending nor active. -/
theorem witness_ModesRaisedAndEnded :
    limited.arbiter.Sound ∧ limited.arbiter.pending.get .economy = true
    ∧ busy.arbiter.Sound ∧ busy.arbiter.active.get .door = true ∧ busy.arbiter.governing = .door
    ∧ (busy.arbiter.active.get .boost = true ∧ busy.arbiter.governing ≠ .boost)
    ∧ (busy.arbiter.pending.get .vent = false ∧ busy.arbiter.active.get .vent = false) ∧ nested.Sound :=
  ⟨by decide, by decide, by decide, by decide, by decide, by decide, by decide, by decide⟩

theorem witness_PostsAndModeTimers :
    busy.Sound ∧ busy.Hears ∧ assigned 16 = true ∧ assigned 30 = true
    ∧ limited.Sound ∧ limited.arbiter.timer .precond = some 1800000 :=
  ⟨sound_busy, by decide, by decide, by decide, sound_limited, by decide⟩

theorem witness_DoorConditionMoves :
    (running.Sound ∧ running.acting = true ∧ running.pins.doorOpen = false)
    ∧ (busy.Sound ∧ busy.acting = true ∧ busy.pins.doorOpen = true ∧ busy.arbiter.dwell = some 1000
      ∧ busy.arbiter.tail = some 20000) :=
  ⟨⟨sound_running, by decide⟩, sound_busy, by decide, by decide, by decide, by decide⟩

theorem witness_RequestsAnsweredBusy :
    (let s := after .lineIdle reading
     s.awake = true ∧ s.link.line ≠ .unread ∧ requestOfCommand (.readConfig 1) = some (.readConfig, 1) ∧ s.own = 1
      ∧ s.control.reading = true)
    ∧ (replying.Sound ∧ replying.awake = true ∧ replying.link.line ≠ .unread
      ∧ requestOfCommand (.restart 2) = some (.restart, 2) ∧ replying.own = 2 ∧ replying.control.restartPending = true) :=
  ⟨by decide, sound_replying, by decide⟩

theorem witness_ReadingRequestsAnswered :
    busy.Sound ∧ busy.Judges 2 ∧ (entryFor 3 busy.peers.table).isSome ∧ entryFor 0 busy.peers.table = none :=
  ⟨sound_busy, by decide⟩

/-- TEST, STANDBY and RUNNING. -/
theorem witness_TestOutputMakesSetting :
    testing.Judges 2 ∧ standby.Judges 2 ∧ busy.Judges 2 ∧ standby.control.state = .standby := by decide

theorem witness_RestartAndClearLockAnswered :
    listening.Judges 2 ∧ standby.Judges 2 ∧ standby.control.state ≠ .test ∧ standby.interlock.trip ≠ .locked
    ∧ locked.Sound ∧ locked.Judges 2 ∧ locked.interlock.trip = .locked :=
  ⟨by decide, by decide, by decide, by decide, sound_locked, by decide⟩

/-- Each station state, and the fan of AUTO at u 527. -/
theorem witness_TargetsOfStateAndMode :
    running.control.state = .running ∧ testing.control.state = .test ∧ standby.control.state = .standby
    ∧ listening.control.state = .starting
    ∧ (let s := { running with demand := { running.demand with record := { DemandRecord.zero with u := 527 } } }
       s.arbiter.governing = .auto ∧ s.cfg.fanMin = 250 ∧ s.demand.record.u.natAbs = 527 ∧ s.flowTargets.fan = 645) := by
  decide

theorem witness_ControlPassHandedOn :
    busy.demand.passTimer = some 1000 ∧ limited.demand.passTimer = some 1000 ∧ limited.interlock.frost = .frost := by
  decide

/-- Each clause of the settling, and each of the three expiries. -/
theorem witness_SequencerSettles :
    limited.output.downDelay = some 500 ∧ (stepped.downDelay = none ∧ stepped.stagesOn = stepped.stageTarget)
    ∧ ({ stepped with stageTarget := 0 }.stageTarget < stepped.stagesOn)
    ∧ ({ stepped with upDelay := none, stageTarget := 3 }.upDelay = none ∧ 0 < stepped.stagesOn)
    ∧ (stepped.upDelay ≠ none ∧ stepped.stagesOn < { stepped with stageTarget := 3 }.stageTarget)
    ∧ busy.output.upDelay = some 3500 ∧ limited.output.proof = .counting 5000 := by decide

theorem witness_FanAndDamperMove :
    busy.output.fanTickIn = some 100 ∧ busy.output.damperTickIn = some 1000 ∧ limited.output.afterRun = some 30000 := by
  decide

theorem witness_TripMachineMoves :
    (running.Sound ∧ running.acting = true ∧ running.pins.contactOpen = false)
    ∧ (busy.Sound ∧ busy.acting = true ∧ busy.pins.contactOpen = true ∧ busy.interlock.openDwell = some 100
      ∧ busy.interlock.tripList.length = 2)
    ∧ (limited.Sound ∧ limited.interlock.cooldown = some 60000 ∧ limited.interlock.tripList.head? = some 1800000) :=
  ⟨⟨sound_running, by decide⟩, ⟨sound_busy, by decide⟩, sound_limited, by decide, by decide⟩

/-- Moves along each row of R166's table. -/
theorem witness_StationStateMovesByTable :
    listening.Sound ∧ (after .listenTimerExpiry listening).control.state = .running
    ∧ busy.Sound ∧ (after (.panelArrival .off 352#16) busy).control.state = .standby
    ∧ standby.Sound ∧ (after (.testOutput 2 1#8 0#16) standby).control.state = .test
    ∧ testing.Sound ∧ (after .testTimerExpiry testing).control.state = .standby
    ∧ replying.Sound ∧ (after .attemptComplete replying).control.state = .starting :=
  ⟨sound_listening, by decide, sound_busy, by decide, sound_standby, by decide, sound_testing, by decide,
    sound_replying, by decide⟩

/-- A stage goes on, and the delay is stopped by a forced removal. -/
theorem witness_StageOnsSpaced :
    busy.Sound ∧ busy.output.upDelay.isSome ∧ (after .overloadArrival busy).output.upDelay = none
    ∧ (let s := { testing with output := { testing.output with
        upDelay := none, proof := .counting 5000, fanPos := 400 } }
       s.OutputSound ∧ (after .fanProven s).output.stagesOn = 1) :=
  ⟨sound_busy, by decide⟩

/-- The hypothesis of the invariant statements, at a station whose step is not idle. -/
theorem witness_StepKeepsSound :
    { busy with pending := [.overloadArrival] }.Sound
    ∧ (match step { busy with pending := [.overloadArrival] } with | .next t => t.output.stagesOn = 0 | _ => False) :=
  ⟨sound_busy, rfl⟩

end Sys2Proof.Tests
end

section
/-! O9 (R15): the median of the outside temperatures heard. Its place in the ascending order is a fact of sorted lists,
and the bound of fifteen a fact of the peer table: one entry for each zone number, and none for the own number. -/

namespace Sys2Proof.Machine

/-! ## Places of an ascending list -/

/-- From place `k` of an ascending list on, no value is below the one at `k`. -/
theorem countP_lt_getElem_le {l : List Int} (hl : l.SortedLE) {k : Nat} (hk : k < l.length) :
    l.countP (· < l[k]) ≤ k := by
  have hdrop : (l.drop k).countP (· < l[k]) = 0 := by
    refine List.countP_eq_zero.mpr fun v hv => ?_
    obtain ⟨i, hi, rfl⟩ := List.mem_drop_iff_getElem.mp hv
    have hge : l[k] ≤ l[k + i] := hl.getElem_le_getElem_of_le (Nat.le_add_right k i)
    simpa using hge
  calc l.countP (· < l[k])
      = (l.take k).countP (· < l[k]) + (l.drop k).countP (· < l[k]) := by
        rw [← List.countP_append, List.take_append_drop]
    _ ≤ (l.take k).length := by rw [hdrop]; exact List.countP_le_length
    _ ≤ k := List.length_take_le k l

/-- Up to place `k` of an ascending list, every value is at most the one at `k`. -/
theorem lt_countP_le_getElem {l : List Int} (hl : l.SortedLE) {k : Nat} (hk : k < l.length) :
    k < l.countP (· ≤ l[k]) := by
  have htake : (l.take (k + 1)).countP (· ≤ l[k]) = (l.take (k + 1)).length := by
    refine List.countP_eq_length.mpr fun v hv => ?_
    obtain ⟨i, hi, rfl⟩ := List.mem_take_iff_getElem.mp hv
    have hle : l[i] ≤ l[k] := hl.getElem_le_getElem_of_le (by omega)
    simpa using hle
  calc k < (l.take (k + 1)).length := by rw [List.length_take]; omega
    _ = (l.take (k + 1)).countP (· ≤ l[k]) := htake.symm
    _ ≤ l.countP (· ≤ l[k]) := (List.take_sublist (k + 1) l).countP_le

/-! ## The median -/

/-- The median is a value of the list, with at most (n - 1) div 2 values below it and more than that many no greater. -/
theorem median_spec {ts : List Int} (hne : ts ≠ []) :
    ∃ m ∈ ts, median ts = some m ∧ ts.countP (· < m) ≤ (ts.length - 1) / 2
      ∧ (ts.length - 1) / 2 < ts.countP (· ≤ m) := by
  have hperm := List.perm_insertionSort (· ≤ ·) ts
  have hsorted : (ts.insertionSort (· ≤ ·)).SortedLE := List.sortedLE_insertionSort
  have hplace : (ts.length - 1) / 2 < (ts.insertionSort (· ≤ ·)).length := by
    have hpos := List.length_pos_iff.mpr hne
    rw [hperm.length_eq]; omega
  refine ⟨(ts.insertionSort (· ≤ ·))[(ts.length - 1) / 2], hperm.mem_iff.mp (List.getElem_mem hplace),
    List.getElem?_eq_getElem hplace, ?_, ?_⟩
  · rw [← hperm.countP_eq]; exact countP_lt_getElem_le hsorted hplace
  · rw [← hperm.countP_eq]; exact lt_countP_le_getElem hsorted hplace

/-- Of two values the median is the lower one. -/
theorem median_pair (x y : Int) : median [x, y] = some (min x y) := by
  rcases le_total x y with hxy | hyx
  · have hsort : [x, y].insertionSort (· ≤ ·) = [x, y] := List.Pairwise.insertionSort_eq (by simpa using hxy)
    rw [median, hsort, min_eq_left hxy]; simp
  · have hsort : [x, y].insertionSort (· ≤ ·) = [y, x] :=
      List.Perm.eq_of_pairwise' (List.pairwise_insertionSort _ _) (by simpa using hyx)
        ((List.perm_insertionSort _ _).trans (List.Perm.swap y x []))
    rw [median, hsort, min_eq_right hyx]; simp

/-! ## The values heard -/

/-- The outside temperatures heard are those of the LIVE entries that carry one, in the order of the table. -/
theorem outsideHeard_eq (table : List Entry) :
    outsideHeard table = (table.filter (·.state = .live)).filterMap (·.outside) := by
  simp [outsideHeard, List.filterMap_filter]

/-- The table holds at most fifteen entries: their numbers differ, lie in 1 to 16 and leave out the own one (R37). -/
theorem table_length_le {s : State} (hcontrol : s.ControlSound) (hpeers : s.PeersSound) :
    s.peers.table.length ≤ 15 := by
  obtain ⟨hown1, hown16, ⟨-, hzones, -⟩, -⟩ := hcontrol
  obtain ⟨hascending, hentry, -⟩ := hpeers
  have hnodup : (s.peers.table.map (·.number)).Nodup := hascending.imp Nat.ne_of_lt
  have hsub : (s.peers.table.map (·.number)).toFinset ⊆ (Finset.Icc 1 16).erase s.own := by
    intro n hn
    obtain ⟨e, he, rfl⟩ := List.mem_map.mp (List.mem_toFinset.mp hn)
    obtain ⟨hlow, hhigh, hother, -⟩ := hentry e he
    exact Finset.mem_erase.mpr ⟨hother, Finset.mem_Icc.mpr ⟨hlow, hhigh.trans hzones⟩⟩
  calc s.peers.table.length
      = (s.peers.table.map (·.number)).toFinset.card := by
        rw [List.toFinset_card_of_nodup hnodup, List.length_map]
    _ ≤ ((Finset.Icc 1 16).erase s.own).card := Finset.card_le_card hsub
    _ = 15 := by rw [Finset.card_erase_of_mem (Finset.mem_Icc.mpr ⟨hown1, hown16⟩)]; rfl

/-- No more temperatures are heard than the table has entries. -/
theorem outsideHeard_length_le (table : List Entry) : (outsideHeard table).length ≤ table.length :=
  List.length_filterMap_le _ _

/-! ## The obligation -/

/-- Settles O9: the median's place by `median_spec`, and the bound of fifteen by `table_length_le`. -/
theorem medianOfLiveOutsideTemperatures : Obligations.MedianOfLiveOutsideTemperatures := by
  unfold Obligations.MedianOfLiveOutsideTemperatures
  intro s hsound
  obtain ⟨hcontrol, -, -, -, hpeers, -⟩ := hsound
  rw [← outsideHeard_eq]
  refine ⟨(outsideHeard_length_le _).trans (table_length_le hcontrol hpeers), median_spec, ?_⟩
  intro x y hpair
  rw [hpair, median_pair]

end Sys2Proof.Machine
end

section
/-! O10 (R63) and O11 (R68): the weather compensation, by its rising and its clamped range, and the proportional term,
whose sign is the error's and whose magnitude is the quotient of the magnitudes. -/

namespace Sys2Proof.Machine

/-! ## Weather compensation -/

/-- A clamp from 0 leaves only the upper end to act on a value that is not negative. -/
theorem clampInt_zero_of_nonneg (hi : Int) {x : Int} (hhi : 0 ≤ hi) (hx : 0 ≤ x) :
    clampInt 0 hi x = min hi x :=
  max_eq_right (le_min hhi hx)

theorem summerCompensation_of_le {outside : Int} (h : 448 ≤ outside) :
    summerCompensation outside = min 48 ((outside - 448) / 4) := by
  have hrise : 0 ≤ (outside - 448) / 4 := Int.ediv_nonneg (by omega) (by decide)
  rw [summerCompensation, if_pos h, clampInt_zero_of_nonneg 48 (by decide) hrise]

theorem summerCompensation_of_lt {outside : Int} (h : outside < 448) : summerCompensation outside = 0 :=
  if_neg (by omega)

theorem winterCompensation_of_neg {outside : Int} (h : outside < 0) :
    winterCompensation outside = min 16 ((0 - outside) / 8) := by
  have hrise : 0 ≤ (0 - outside) / 8 := Int.ediv_nonneg (by omega) (by decide)
  rw [winterCompensation, if_pos h, clampInt_zero_of_nonneg 16 (by decide) hrise]

theorem winterCompensation_of_nonneg {outside : Int} (h : 0 ≤ outside) : winterCompensation outside = 0 :=
  if_neg (by omega)

/-- Summer and winter exclude each other. -/
theorem summerCompensation_eq_zero_or_winterCompensation_eq_zero (outside : Int) :
    summerCompensation outside = 0 ∨ winterCompensation outside = 0 := by
  rcases lt_or_ge outside 448 with hmild | hhot
  · exact .inl (summerCompensation_of_lt hmild)
  · exact .inr (winterCompensation_of_nonneg (by omega))

theorem summerCompensation_pos_iff (outside : Int) : 0 < summerCompensation outside ↔ 452 ≤ outside := by
  rcases lt_or_ge outside 448 with hmild | hhot
  · rw [summerCompensation_of_lt hmild]; omega
  · rw [summerCompensation_of_le hhot]; omega

theorem summerCompensation_eq_limit_iff (outside : Int) : summerCompensation outside = 48 ↔ 640 ≤ outside := by
  rcases lt_or_ge outside 448 with hmild | hhot
  · rw [summerCompensation_of_lt hmild]; omega
  · rw [summerCompensation_of_le hhot]; omega

theorem winterCompensation_pos_iff (outside : Int) : 0 < winterCompensation outside ↔ outside ≤ -8 := by
  rcases lt_or_ge outside 0 with hfrost | hmild
  · rw [winterCompensation_of_neg hfrost]; omega
  · rw [winterCompensation_of_nonneg hmild]; omega

theorem winterCompensation_eq_limit_iff (outside : Int) : winterCompensation outside = 16 ↔ outside ≤ -128 := by
  rcases lt_or_ge outside 0 with hfrost | hmild
  · rw [winterCompensation_of_neg hfrost]; omega
  · rw [winterCompensation_of_nonneg hmild]; omega

/-- Settles O10: the two formulas in their ranges, and the ends of the ranges from the formulas. -/
theorem weatherCompensation : Obligations.WeatherCompensation := by
  unfold Obligations.WeatherCompensation
  intro outside
  refine ⟨summerCompensation_of_le, summerCompensation_of_lt, winterCompensation_of_neg, winterCompensation_of_nonneg,
    summerCompensation_eq_zero_or_winterCompensation_eq_zero outside, summerCompensation_pos_iff outside,
    summerCompensation_eq_limit_iff outside, winterCompensation_pos_iff outside,
    winterCompensation_eq_limit_iff outside, ?_⟩
  rintro rfl
  exact ⟨summerCompensation_of_lt (by decide), winterCompensation_of_nonneg (by decide)⟩

/-! ## The proportional term -/

/-- The magnitude is the floor of the magnitudes' quotient: the truncation is toward zero (R68). -/
theorem natAbs_proportional (kp : Nat) (error : Int) :
    (proportional kp error).natAbs = kp * error.natAbs / 16 := by
  rw [proportional, Int.natAbs_tdiv, Int.natAbs_mul]; rfl

theorem proportional_nonneg (kp : Nat) {error : Int} (h : 0 ≤ error) : 0 ≤ proportional kp error :=
  Int.tdiv_nonneg (mul_nonneg (Int.natCast_nonneg kp) h) (by decide)

/-- Truncation toward zero makes the term of the opposite error the mirror image. -/
theorem proportional_neg (kp : Nat) (error : Int) : proportional kp (-error) = -proportional kp error := by
  rw [proportional, mul_neg, Int.neg_tdiv, proportional]

theorem proportional_nonpos (kp : Nat) {error : Int} (h : error ≤ 0) : proportional kp error ≤ 0 := by
  have hmirror : 0 ≤ proportional kp (-error) := proportional_nonneg kp (by omega)
  rw [proportional_neg] at hmirror
  omega

theorem proportional_zero_gain (error : Int) : proportional 0 error = 0 := by
  have habs : (proportional 0 error).natAbs = 0 := by rw [natAbs_proportional, Nat.zero_mul, Nat.zero_div]
  exact Int.natAbs_eq_zero.mp habs

/-- An error of whole degrees is divided exactly: each degree brings the gain itself. -/
theorem proportional_degrees (kp : Nat) (degrees : Int) : proportional kp (16 * degrees) = kp * degrees := by
  rw [proportional, mul_left_comm, Int.mul_tdiv_cancel_left _ (by decide)]

/-- Settles O11: magnitude and mirror image fix the term, and the rule's own figures follow. -/
theorem proportionalTermMirrors : Obligations.ProportionalTermMirrors := by
  unfold Obligations.ProportionalTermMirrors
  intro kp error degrees
  exact ⟨natAbs_proportional kp error, proportional_nonneg kp, proportional_nonpos kp, proportional_neg kp error,
    proportional_zero_gain error, proportional_degrees 200 degrees, by decide⟩

end Sys2Proof.Machine
end

section
/-! O16 (R86): the headroom. Picking the entry of every number from 1 to Z but the own gives back the peer table, so the
claims of the share items sum up to those of the entries that are not LOST. -/

namespace Sys2Proof.Machine

/-! ## The entries of the other numbers -/

/-- Where no number stands twice, an entry of the table is the one found under its number. -/
theorem entryFor_eq_some_iff {table : List Entry} (hnodup : (table.map (·.number)).Nodup) {n : Nat} {e : Entry} :
    entryFor n table = some e ↔ e ∈ table ∧ e.number = n := by
  constructor
  · intro hfound
    exact ⟨List.mem_of_find?_eq_some hfound, by simpa using List.find?_some hfound⟩
  · rintro ⟨he, rfl⟩
    have hsome : (entryFor e.number table).isSome := List.find?_isSome.mpr ⟨e, he, by simp⟩
    obtain ⟨x, hx⟩ := Option.isSome_iff_exists.mp hsome
    have hnumber : x.number = e.number := by simpa using List.find?_some hx
    rw [hx, List.inj_on_of_nodup_map hnodup (List.mem_of_find?_eq_some hx) he hnumber]

/-- The entries found under numbers that are all different and leave out none of the table's are the table's. -/
theorem filterMap_entryFor_perm {table : List Entry} (hnodup : (table.map (·.number)).Nodup) {numbers : List Nat}
    (hnumbers : numbers.Nodup) (hall : ∀ e ∈ table, e.number ∈ numbers) :
    (numbers.filterMap (entryFor · table)).Perm table := by
  have hfound : (numbers.filterMap (entryFor · table)).Nodup := by
    refine hnumbers.filterMap ?_
    intro n m e hn hm
    obtain ⟨-, rfl⟩ := (entryFor_eq_some_iff hnodup).mp hn
    obtain ⟨-, rfl⟩ := (entryFor_eq_some_iff hnodup).mp hm
    rfl
  refine (List.perm_ext_iff_of_nodup hfound hnodup.of_map).mpr fun e => ?_
  simp only [List.mem_filterMap, entryFor_eq_some_iff hnodup]
  constructor
  · rintro ⟨-, -, he, -⟩
    exact he
  · intro he
    exact ⟨e.number, hall e he, he, rfl⟩

/-- The numbers from 1 to Z but the own leave out no entry of a sound peer table (R37). -/
theorem otherNumbers_perm {s : State} (hpeers : s.PeersSound) :
    (((List.range' 1 s.cfg.zones).filter (· ≠ s.own)).filterMap (entryFor · s.peers.table)).Perm s.peers.table := by
  obtain ⟨hascending, hentry, -⟩ := hpeers
  refine filterMap_entryFor_perm (hascending.imp Nat.ne_of_lt) (List.Nodup.filter _ List.nodup_range') ?_
  intro e he
  obtain ⟨hlow, hhigh, hother, -⟩ := hentry e he
  simp only [List.mem_filter, List.mem_range'_1, decide_eq_true_eq]
  omega

/-! ## The claims of the share items -/

/-- A LOST or ABSENT number's item claims nothing; another's claims what its entry does (R42). -/
theorem shareItem_claims (cfg : Settings) (table : List Entry) (n : Nat) :
    let heard := (entryFor n table).filter (·.state ≠ .lost)
    (shareItem cfg table n).claimEl = (heard.map (·.cEl)).getD 0
    ∧ (shareItem cfg table n).claimC = (heard.map (·.cC)).getD 0 := by
  rcases hfound : entryFor n table with _ | e
  · simp [shareItem, hfound, reserveItem]
  · cases hstate : e.state <;> simp [shareItem, hfound, hstate, reserveItem, Option.filter]

/-- What is not found counts as 0 in a sum. -/
theorem sum_map_getD_zero {α : Type} (f : α → Option Nat) (l : List α) :
    (l.map fun a => (f a).getD 0).sum = (l.filterMap f).sum := by
  induction l with
  | nil => rfl
  | cons a l ih => cases h : f a <;> simp [h, ih]

/-- An amount that each item takes from its entry, and that is 0 for the reserve item, sums up to that of the entries
which are not LOST. -/
theorem sum_shareItems {s : State} (hpeers : s.PeersSound) {ofItem : ShareItem → Nat} {ofEntry : Entry → Nat}
    (hitem : ∀ n, ofItem (shareItem s.cfg s.peers.table n)
      = (((entryFor n s.peers.table).filter (·.state ≠ .lost)).map ofEntry).getD 0) :
    ((shareItems s.cfg s.own s.peers.table).map ofItem).sum
      = ((s.peers.table.filter (·.state ≠ .lost)).map ofEntry).sum := by
  have hperm := ((otherNumbers_perm hpeers).filter (·.state ≠ .lost)).map ofEntry
  rw [List.filter_filterMap, List.map_filterMap] at hperm
  rw [← hperm.sum_eq, ← sum_map_getD_zero, shareItems, List.map_map]
  exact congrArg List.sum (List.map_congr_left fun n _ => hitem n)

/-! ## The headroom -/

/-- The electric headroom is the budget in use less the items' claims, and 0 where they exceed it (R86). -/
theorem allowance_headEl (x : ShareInputs) : (allowance x).headEl
    = (allowance x).budgetEl - ((shareItems x.cfg x.own x.peers.table).map (·.claimEl)).sum := rfl

/-- The cooling headroom is the budget in use less the items' claims, and 0 where they exceed it (R86). -/
theorem allowance_headC (x : ShareInputs) : (allowance x).headC
    = (allowance x).budgetC - ((shareItems x.cfg x.own x.peers.table).map (·.claimC)).sum := rfl

/-- At most fifteen entries are heard, so their amounts sum up to at most fifteen times the largest allowed. -/
theorem sum_heard_le {s : State} (hcontrol : s.ControlSound) (hpeers : s.PeersSound) {amount : Entry → Nat}
    {most : Nat} (hmost : ∀ e ∈ s.peers.table, amount e ≤ most) :
    ((s.peers.table.filter (·.state ≠ .lost)).map amount).sum ≤ 15 * most := by
  have hlength : ((s.peers.table.filter (·.state ≠ .lost)).map amount).length ≤ 15 := by
    rw [List.length_map]
    exact (List.length_filter_le _ _).trans (table_length_le hcontrol hpeers)
  refine (List.sum_le_card_nsmul _ most ?_).trans (Nat.mul_le_mul_right most hlength)
  intro x hx
  obtain ⟨e, he, rfl⟩ := List.mem_map.mp hx
  exact hmost e (List.mem_of_mem_filter he)

/-- Settles O16: the items' claims are those of the entries not LOST (`sum_shareItems`), whatever the own demand, and
fifteen entries of at most 6000 and 250 bound them (`sum_heard_le`). -/
theorem headroomLeavesHeardClaims : Obligations.HeadroomLeavesHeardClaims := by
  unfold Obligations.HeadroomLeavesHeardClaims
  intro s governing wanted demandEl demandC hsound
  obtain ⟨hcontrol, -, -, -, hpeers, -⟩ := hsound
  have hclaims : ∀ e ∈ s.peers.table, e.cEl ≤ 6000 ∧ e.cC ≤ 250 := by
    intro e he
    obtain ⟨-, hentry, -⟩ := hpeers
    obtain ⟨-, -, -, -, -, -, -, -, hEl, hC, -⟩ := hentry e he
    exact ⟨hEl, hC⟩
  refine ⟨?_, ?_, sum_heard_le hcontrol hpeers fun e he => (hclaims e he).1,
    sum_heard_le hcontrol hpeers fun e he => (hclaims e he).2⟩
  · rw [← sum_shareItems hpeers (fun n => (shareItem_claims s.cfg s.peers.table n).1), Nat.zero_max]
    exact congrArg _ (allowance_headEl _)
  · rw [← sum_shareItems hpeers (fun n => (shareItem_claims s.cfg s.peers.table n).2), Nat.zero_max]
    exact congrArg _ (allowance_headC _)

end Sys2Proof.Machine
end

section
/-! What a station in the middle of an event still has: every block sound, but for a waiting report's content, which the
watch at the event's end brings up to date (R30). The forms that every meaning has keep the station sound where their
inner change leaves it fit. -/

namespace Sys2Proof.Machine

/-! ## The link controller apart from the waiting report's content -/

/-- The link controller, but for the content of a waiting report (R19, R20, R21, R24, R28, R30, R31, R36). -/
structure State.LinkReady (s : State) : Prop where
  line : s.LineSound
  reportCount : s.link.reportCount < 16
  replyCount : s.link.replyCount < 16
  noReport : s.link.reportSlot = none → s.link.reportCount = 0
  noReply : s.link.replySlot = none → s.link.replyCount = 0
  attempt : s.link.AttemptIsSlots
  changed : s.link.changed = true → s.link.sendingReport = true
  starting : s.control.state = .starting →
    s.link.reportSlot = none ∧ s.link.sinceReport = none ∧ s.link.sinceDiscard = none ∧ s.link.firstIn = none
    ∧ s.link.earlyIn = none

/-- A waiting report is current (R30). -/
abbrev State.ReportCurrent (s : State) : Prop :=
  ∀ r ∈ s.link.reportSlot, s.link.sendingReport = false → r = s.report

theorem State.linkSound_iff (s : State) : s.LinkSound ↔ s.LinkReady ∧ s.ReportCurrent := by
  constructor
  · rintro ⟨h1, h2, h3, h4, h5, h6, h7, h8, h9⟩
    exact ⟨⟨h1, h2, h3, h4, h5, h6, h7, h9⟩, h8⟩
  · rintro ⟨⟨h1, h2, h3, h4, h5, h6, h7, h9⟩, h8⟩
    exact ⟨h1, h2, h3, h4, h5, h6, h7, h8, h9⟩

/-- Sound but for the content of a waiting report: what an event leaves before its watch. -/
structure State.Fit (s : State) : Prop where
  control : s.ControlSound
  waiting : s.WaitingSound
  sensing : s.SensingSound
  link : s.LinkReady
  peers : s.PeersSound
  demand : s.DemandSound
  share : s.ShareSound
  arbiter : s.ArbiterSound
  output : s.OutputSound
  interlock : s.InterlockSound

/-- A sound station is one that is fit and whose waiting report is current. -/
theorem State.sound_iff (s : State) : s.Sound ↔ s.Fit ∧ s.ReportCurrent := by
  constructor
  · rintro ⟨h1, h2, h3, h4, h5, h6, h7, h8, h9, h10⟩
    obtain ⟨hready, hcurrent⟩ := s.linkSound_iff.mp h4
    exact ⟨⟨h1, h2, h3, hready, h5, h6, h7, h8, h9, h10⟩, hcurrent⟩
  · rintro ⟨⟨h1, h2, h3, hready, h5, h6, h7, h8, h9, h10⟩, hcurrent⟩
    exact ⟨h1, h2, h3, s.linkSound_iff.mpr ⟨hready, hcurrent⟩, h5, h6, h7, h8, h9, h10⟩

theorem State.Sound.fit {s : State} (h : s.Sound) : s.Fit := (s.sound_iff.mp h).1

/-! ## The watch at an event's end -/

section
variable (cfg : Settings) (state : StationState) (r : ReportBody) (l : Link)

@[simp] theorem Link.notice_attempt : (l.notice cfg state).attempt = l.attempt := by
  unfold Link.notice; split_ifs <;> rfl

@[simp] theorem Link.notice_reportSlot : (l.notice cfg state).reportSlot = l.reportSlot := by
  unfold Link.notice; split_ifs <;> rfl

@[simp] theorem Link.notice_sendingReport : (l.notice cfg state).sendingReport = l.sendingReport := by
  simp [Link.sendingReport]

/-- A notice writes the early report and the mark of a change alone. -/
theorem Link.notice_frame :
    l.notice cfg state = { l with
      earlyIn := (l.notice cfg state).earlyIn, changed := (l.notice cfg state).changed } := by
  unfold Link.notice; split_ifs <;> rfl

/-- A change is noted only where a report is being sent. -/
theorem Link.notice_changed (h : (l.notice cfg state).changed = true) :
    l.changed = true ∨ l.sendingReport = true := by
  unfold Link.notice at h
  split_ifs at h with hsending
  · exact .inr hsending
  all_goals exact .inl h

/-- The upkeep of a waiting report writes its content alone. -/
theorem Link.refresh_frame : l.refresh r = { l with reportSlot := (l.refresh r).reportSlot } := by
  unfold Link.refresh; split
  · rfl
  · split_ifs <;> rfl

@[simp] theorem Link.refresh_sendingReport : (l.refresh r).sendingReport = l.sendingReport := by
  rw [l.refresh_frame]; rfl

theorem Link.refresh_of_none (h : l.reportSlot = none) : l.refresh r = l := by simp [Link.refresh, h]

theorem Link.refresh_of_sending (h : l.sendingReport = true) : l.refresh r = l := by
  unfold Link.refresh; split
  · rfl
  · simp [h]

theorem Link.refresh_of_waiting (h : l.sendingReport = false) (hr : l.reportSlot.isSome) :
    l.refresh r = { l with reportSlot := some r } := by
  obtain ⟨r', hr'⟩ := Option.isSome_iff_exists.mp hr
  simp [Link.refresh, h, hr']

@[simp] theorem Link.refresh_reportSlot_eq_none : (l.refresh r).reportSlot = none ↔ l.reportSlot = none := by
  unfold Link.refresh; split
  · simp [*]
  · split_ifs <;> simp [*]

end

/-- What the watch does to the link controller: a notice, where the station reports and its noticed values have changed,
and the upkeep of a waiting report. -/
theorem State.watch_link (s before : State) :
    (s.watch before).link =
      (if s.reports && before.noticed ≠ s.noticed then s.link.notice s.cfg s.control.state else s.link).refresh
        s.report := rfl

theorem State.report_congr_link (s : State) (l : Link) : { s with link := l }.report = s.report := rfl

@[simp] theorem State.watch_report (s before : State) : (s.watch before).report = s.report := rfl

@[simp] theorem State.reports_iff (s : State) : s.reports = true ↔ s.control.state ≠ .starting := by
  unfold State.reports; cases s.control.state <;> simp

/-- Only the content of a slot's own REPORT attempt makes the station send a report. -/
theorem Link.sendingReport_iff (l : Link) :
    l.sendingReport = true ↔ ∃ r, l.attempt = some { content := .report r, live := true } := by
  unfold Link.sendingReport
  constructor
  · intro h
    split at h
    · next a ha =>
      split at h
      · next r hr => exact ⟨r, by rw [ha]; cases a; simp_all⟩
      · cases h
    · cases h
  · rintro ⟨r, hr⟩
    simp [hr]

/-- A slot whose report is not being sent may take another content. -/
theorem Link.AttemptIsSlots.refresh {l : Link} (h : l.AttemptIsSlots) (r : ReportBody) : (l.refresh r).AttemptIsSlots := by
  by_cases hs : l.sendingReport = true
  · rwa [l.refresh_of_sending r hs]
  · rw [l.refresh_frame]
    intro a ha hlive
    have hslots := h a ha hlive
    cases hc : a.content with
    | report q => exact absurd (l.sendingReport_iff.mpr ⟨q, by rw [ha]; cases a; simp_all⟩) hs
    | reply q => rw [hc] at hslots; exact hslots

/-- Upkeep keeps the OK reply to RESTART where it is. -/
theorem Link.UpkeptFrom.holdsRestartOk {l k : Link} (h : l.UpkeptFrom k) : k.holdsRestartOk = l.holdsRestartOk := by
  rw [h.1]; rfl

/-- A notice leaves the link controller ready in a station that reports. -/
theorem State.LinkReady.notice {s : State} (h : s.LinkReady) (hs : s.control.state ≠ .starting) :
    State.LinkReady { s with link := s.link.notice s.cfg s.control.state } := by
  have hsending := s.link.notice_sendingReport s.cfg s.control.state
  have hchanged := s.link.notice_changed s.cfg s.control.state
  rw [s.link.notice_frame] at hsending hchanged ⊢
  refine ⟨h.line, h.reportCount, h.replyCount, h.noReport, h.noReply, h.attempt, ?_, fun hst => absurd hst hs⟩
  intro hc
  exact (hchanged hc).elim (fun hc => h.changed hc) id

/-- The upkeep of a waiting report leaves the link controller ready. -/
theorem State.LinkReady.refresh {s : State} (h : s.LinkReady) (r : ReportBody) :
    State.LinkReady { s with link := s.link.refresh r } := by
  have hnone := s.link.refresh_reportSlot_eq_none r
  have hattempt := h.attempt.refresh r
  rw [s.link.refresh_frame] at hnone hattempt ⊢
  refine ⟨h.line, h.reportCount, h.replyCount, fun hn => h.noReport (hnone.mp hn), h.noReply, hattempt, h.changed, ?_⟩
  intro hst
  obtain ⟨hslot, hrest⟩ := h.starting hst
  exact ⟨hnone.mpr hslot, hrest⟩

/-- After the watch a waiting report is current. -/
theorem State.watch_current (s before : State) : (s.watch before).ReportCurrent := by
  intro r hr hs
  have hl := s.watch_link before
  generalize (if s.reports && before.noticed ≠ s.noticed then s.link.notice s.cfg s.control.state else s.link) = l at hl
  rw [hl] at hr hs
  rw [Link.refresh_sendingReport] at hs
  cases hslot : l.reportSlot with
  | none =>
    rw [l.refresh_of_none _ hslot, hslot] at hr
    cases hr
  | some q =>
    rw [l.refresh_of_waiting _ hs (by simp [hslot])] at hr
    exact (Option.some.inj hr).symm

theorem State.LinkReady.watch {s : State} (h : s.LinkReady) (before : State) : (s.watch before).LinkReady := by
  unfold State.watch
  dsimp only
  split_ifs with hn
  · rw [Bool.and_eq_true, State.reports_iff] at hn
    exact (h.notice hn.1).refresh _
  · exact h.refresh _

/-- A station that is not awake has an initial link controller, which the watch leaves. -/
theorem State.WaitingSound.watch {s : State} (h : s.WaitingSound) (before : State) : (s.watch before).WaitingSound := by
  refine ⟨fun ha => ?_, h.2⟩
  obtain ⟨hreading, hlink⟩ := h.1 ha
  refine ⟨hreading, ?_⟩
  have hst : s.reports = false := by
    simp only [Control.reading, Bool.and_eq_true, beq_iff_eq] at hreading
    simp [State.reports, hreading.1]
  rw [State.watch_link, hst, hlink]
  rfl

theorem State.ControlSound.watch {s : State} (h : s.ControlSound) (before : State) : (s.watch before).ControlSound := by
  obtain ⟨h1, h2, h3, h4, h5, h6, h7, h8, h9, h10, h11⟩ := h
  refine ⟨h1, h2, h3, h4, h5, h6, h7, h8, h9, fun hp => ?_, h11⟩
  rw [(s.watch_upkept before).holdsRestartOk]
  exact h10 hp

/-- The watch at an event's end makes a fit station sound. -/
theorem State.Fit.watch {s : State} (h : s.Fit) (before : State) : (s.watch before).Sound :=
  (State.sound_iff _).mpr
    ⟨⟨h.control.watch before, h.waiting.watch before, h.sensing, h.link.watch before, h.peers, h.demand, h.share,
      h.arbiter, h.output, h.interlock⟩, s.watch_current before⟩

end Sys2Proof.Machine
end

section
/-! The passing of time keeps a station sound: timers stay within their lengths and running, ages stay below their ends,
and no rule of a block speaks of the time left alone. -/

namespace Sys2Proof.Machine

/-! ## What time leaves -/

@[simp] theorem State.elapse_cfg (ms : Nat) (s : State) : (s.elapse ms).cfg = s.cfg := rfl

@[simp] theorem State.elapse_own (ms : Nat) (s : State) : (s.elapse ms).own = s.own := rfl

@[simp] theorem State.elapse_state (ms : Nat) (s : State) : (s.elapse ms).control.state = s.control.state := rfl

@[simp] theorem State.elapse_reading (ms : Nat) (s : State) : (s.elapse ms).control.reading = s.control.reading := rfl

@[simp] theorem State.elapse_awake (ms : Nat) (s : State) : (s.elapse ms).awake = s.awake := rfl

@[simp] theorem State.elapse_acting (ms : Nat) (s : State) : (s.elapse ms).acting = s.acting := rfl

@[simp] theorem Control.after_state (ms : Nat) (c : Control) : (c.after ms).state = c.state := rfl

@[simp] theorem Control.after_cfg (ms : Nat) (c : Control) : (c.after ms).cfg = c.cfg := rfl

@[simp] theorem Control.after_own (ms : Nat) (c : Control) : (c.after ms).own = c.own := rfl

@[simp] theorem Control.after_reading (ms : Nat) (c : Control) : (c.after ms).reading = c.reading := rfl

@[simp] theorem State.elapse_flags (ms : Nat) (s : State) : (s.elapse ms).flags = s.flags := by
  simp only [State.flags, State.elapse_peers', Peers.after, fresh, Timer.after_isSome]
  rfl

/-- No report speaks of the time left to a timer or of an age. -/
@[simp] theorem State.elapse_report (ms : Nat) (s : State) : (s.elapse ms).report = s.report := by
  simp only [State.report, State.elapse_flags]
  rfl

@[simp] theorem Link.after_sendingReport (ms : Nat) (l : Link) : (l.after ms).sendingReport = l.sendingReport := rfl

/-! ## Each block as time passes -/

theorem State.ControlSound.elapse {s : State} (h : s.ControlSound) (ms : Nat) : (s.elapse ms).ControlSound := by
  obtain ⟨h1, h2, h3, h4, h5, h6, h7, h8, h9, h10, h11, h12, h13⟩ := h
  refine ⟨h1, h2, h3, h4, h5, ?_, Timer.after_within h7, ?_, Timer.after_within h9, h10, ?_, Timer.after_within h12, h13⟩
  · simpa [Control.after] using h6
  · simpa [Control.after] using h8
  · rw [State.elapse_awake, State.elapse_reading]
    simpa [Control.after] using h11

/-- Blocks at their first values have no timer running, so time leaves them there. -/
theorem State.WaitingSound.elapse {s : State} (h : s.WaitingSound) (ms : Nat) : (s.elapse ms).WaitingSound := by
  refine ⟨fun ha => ?_, fun hr => ?_⟩
  · obtain ⟨hreading, hlink⟩ := h.1 ha
    refine ⟨hreading, ?_⟩
    rw [State.elapse_link', hlink]
    rfl
  · obtain ⟨h1, h2, h3, h4, h5, h6, h7, h8, h9, h10, h11, h12, h13, h14, h15, h16⟩ := h.2 hr
    refine ⟨h1, ?_, ?_, ?_, ?_, ?_, ?_, h8, ?_, ?_, h11, ?_, ?_, h14, ?_, ?_⟩
    · rw [State.elapse_peers', h2]; rfl
    · rw [State.elapse_demand', h3]; rfl
    · rw [State.elapse_share', h4]; rfl
    · rw [State.elapse_arbiter', h5]; rfl
    · rw [State.elapse_output', h6]; rfl
    all_goals simp [Interlock.after, *]

/-- An entry grows older and stays what it was (R40). -/
theorem Entry.Sound.age {cfg : Settings} {own : Nat} {e : Entry} (h : e.Sound cfg own) (ms : Nat) :
    Entry.Sound cfg own { e with age := max e.age (min (e.age + ms) (lostAge cfg)) } := by
  obtain ⟨h1, h2, h3, h4, h5, h6, h7⟩ := h
  refine ⟨h1, h2, h3, ?_, fun hs => ?_, fun hs => ?_, h7⟩
  · simp only [lostAge]; omega
  · have := h5 hs
    simp only [lostAge]; omega
  · have := h6 hs
    simp only [lostAge]; omega

theorem State.PeersSound.elapse {s : State} (h : s.PeersSound) (ms : Nat) : (s.elapse ms).PeersSound := by
  obtain ⟨h1, h2, h3, h4, h5, h6, h7, h8, h9, h10, h11, h12, h13, h14⟩ := h
  refine ⟨?_, ?_, Timer.after_within h3, h4, h5, Timer.after_within h6, h7, Timer.after_within h8, ?_, h10, h11,
    Timer.after_within h12, ?_, ?_⟩
  · simpa [Peers.after] using h1
  · intro e he
    obtain ⟨x, hx, rfl⟩ := List.mem_map.mp he
    exact (h2 x hx).age ms
  · simpa [Peers.after] using h9
  · simpa [Peers.after] using h13
  · simpa [Peers.after] using h14

theorem State.DemandSound.elapse {s : State} (h : s.DemandSound) (ms : Nat) : (s.elapse ms).DemandSound := by
  obtain ⟨h1, h2, h3⟩ := h
  refine ⟨?_, Timer.after_within h2, h3⟩
  simpa [Demand.after] using h1

theorem State.ShareSound.elapse {s : State} (h : s.ShareSound) (ms : Nat) : (s.elapse ms).ShareSound := by
  obtain ⟨h1, h2, h3, h4, h5, h6, h7, h8, h9, h10, h11, h12, h13, h14, h15, h16, h17, h18⟩ := h
  refine ⟨h1, h2, h3, h4, h5, h6, h7, h8, h9, h10, h11, h12, h13, ?_, ?_, ?_, Timer.after_within h17, h18⟩
  · simpa [Share.after] using h14
  · simpa [Share.after] using h15
  · simpa [Share.after] using h16

theorem Arbiter.Sound.after {a : Arbiter} (h : a.Sound) (ms : Nat) : (a.after ms).Sound := by
  obtain ⟨h1, h2, h3, h4, h5, h6, h7, h8, h9, h10, h11, h12, h13, h14, h15, h16⟩ := h
  refine ⟨h1, h2, h3, h4, h5, h6, h7, ?_, Timer.after_within h9, ?_, Timer.after_within h11, ?_, Timer.after_within h13,
    Timer.after_within h14, Timer.after_within h15, ?_⟩
  · simpa [Arbiter.after] using h8
  · simpa [Arbiter.after] using h10
  · simpa [Arbiter.after] using h12
  · simpa [Arbiter.after] using h16

@[simp] theorem adjacentDoor_elapse (ms : Nat) (s : State) : (s.elapse ms).neighbourDoor = s.neighbourDoor := by
  simp only [State.neighbourDoor, State.elapse_peers', Peers.after, ageTable, List.any_map]
  rfl

theorem State.ArbiterSound.elapse {s : State} (h : s.ArbiterSound) (ms : Nat) : (s.elapse ms).ArbiterSound := by
  obtain ⟨h1, h2, h3, h4, h5, h6⟩ := h
  refine ⟨h1.after ms, fun hs => ?_, h3, ?_, h5, ?_⟩
  · obtain ⟨h7, h8, h9, h10, h11⟩ := h2 hs
    exact ⟨h7, h8, h9, h10, by simp [Arbiter.after, h11]⟩
  · rw [State.doorHolds, adjacentDoor_elapse]
    exact h4
  · simpa [Arbiter.after] using h6

theorem FanProof.counted_after {p : FanProof} (h : p.counted ≤ 5000) (ms : Nat) : (p.after ms).counted ≤ 5000 := by
  cases p with
  | idle => exact h
  | proven => exact h
  | counting t =>
    simp only [FanProof.counted, FanProof.after, Config.fanProofTime] at h ⊢
    omega

theorem FanProof.after_eq_proven (ms : Nat) (p : FanProof) : p.after ms = .proven ↔ p = .proven := by
  cases p <;> simp [FanProof.after]

theorem State.OutputSound.elapse {s : State} (h : s.OutputSound) (ms : Nat) : (s.elapse ms).OutputSound := by
  obtain ⟨h1, ⟨h2, h3, h4, h5⟩, ⟨h6, h7⟩, h8, h9, h10, h11, h12, h13, h14, h15, h16, h17, h18, h19⟩ := h
  refine ⟨?_, ⟨h2, ?_, ?_, ?_⟩, ⟨?_, FanProof.counted_after h7 ms⟩, h8, h9, ?_, Timer.after_within h11,
    Timer.after_within h12, Timer.after_within h13, h14, ?_, Timer.after_within h16, ?_, Timer.after_within h18, h19⟩
  · have htarget : (s.elapse ms).stageTarget = s.stageTarget := by
      simp only [State.stageTarget, capped, State.elapse_share', Share.after, Timer.after_isSome]
      rfl
    obtain ⟨ht, hflow⟩ := h1
    exact ⟨htarget.symm ▸ ht, hflow⟩
  · simpa [Output.after] using h3
  · simpa [Output.after] using h4
  · simpa [Output.after] using h5
  · simpa [Output.after, FanProof.after_idle_iff] using h6
  · simpa [Output.after, FanProof.after_eq_proven] using h10
  · simpa [Output.after] using h15
  · simpa [Output.after] using h17

/-- The trips of the list stay in their order and within their memory as they grow older (R152). -/
theorem ageTrips_sound {ages : List Nat} (ho : ages.Pairwise (· ≥ ·)) (hm : ∀ age ∈ ages, age ≤ 1800000) (ms : Nat) :
    (ageTrips ms ages).Pairwise (· ≥ ·) ∧ ∀ age ∈ ageTrips ms ages, age ≤ 1800000 := by
  constructor
  · rw [ageTrips, List.pairwise_map]
    refine ho.imp fun {a b} hab => ?_
    simp only [Config.tripMemory]
    omega
  · intro age hage
    obtain ⟨a, ha, rfl⟩ := List.mem_map.mp hage
    have := hm a ha
    simp only [Config.tripMemory]
    omega

theorem State.InterlockSound.elapse {s : State} (h : s.InterlockSound) (ms : Nat) : (s.elapse ms).InterlockSound := by
  obtain ⟨h1, h2, h3, h4, h5, h6, h7, h8, h9, h10, h11, h12, h13, h14, h15, h16, h17, h18, h19, h20, h21, h22⟩ := h
  obtain ⟨hordered, hremembered⟩ := ageTrips_sound h5 h6 ms
  refine ⟨h1, h2, by simpa [Interlock.after, ageTrips] using h3, by simpa [Interlock.after, ageTrips] using h4, hordered,
    hremembered, ?_, Timer.after_within h8, ?_, Timer.after_within h10, ?_, Timer.after_within h12, ?_,
    Timer.after_within h14, ?_, Timer.after_within h16, ?_, Timer.after_within h18, ?_, Timer.after_within h20, ?_,
    Timer.after_within h22⟩
  all_goals simp only [State.elapse_interlock', Interlock.after, Timer.after_isSome, Timer.after_eq_none]
  exacts [h7, h9, h11, h13, h15, h17, h19, h21]

theorem State.LinkReady.elapse {s : State} (h : s.LinkReady) (ms : Nat) : (s.elapse ms).LinkReady := by
  refine ⟨h.line, h.reportCount, h.replyCount, h.noReport, h.noReply, h.attempt, h.changed, fun hs => ?_⟩
  obtain ⟨h1, h2, h3, h4, h5⟩ := h.starting hs
  simp [Link.after, h1, h2, h3, h4, h5]

/-! ## The station as time passes -/

theorem State.Fit.elapse {s : State} (h : s.Fit) (ms : Nat) : (s.elapse ms).Fit :=
  ⟨h.control.elapse ms, h.waiting.elapse ms, h.sensing, h.link.elapse ms, h.peers.elapse ms, h.demand.elapse ms,
    h.share.elapse ms, h.arbiter.elapse ms, h.output.elapse ms, h.interlock.elapse ms⟩

theorem State.Sound.elapse {s : State} (h : s.Sound) (ms : Nat) : (s.elapse ms).Sound := by
  obtain ⟨hfit, hcurrent⟩ := s.sound_iff.mp h
  refine (State.sound_iff _).mpr ⟨hfit.elapse ms, fun r hr hs => ?_⟩
  rw [State.elapse_report]
  exact hcurrent r hr hs

/-! ## A message of another station at its end -/

@[simp] theorem State.hears_awake (s : State) : s.hears.awake = s.awake := rfl

@[simp] theorem State.hears_cfg (s : State) : s.hears.cfg = s.cfg := rfl

@[simp] theorem State.hears_own (s : State) : s.hears.own = s.own := rfl

theorem State.Fit.hears {s : State} (h : s.Fit) (ha : s.attentive = true) : s.hears.Fit := by
  simp only [State.attentive, Bool.and_eq_true, bne_iff_ne, ne_eq] at ha
  obtain ⟨hawake, hread⟩ := ha
  have hlink : s.link.heard = { s.link with line := .busy, incoming := s.link.heard.incoming } := by
    unfold Link.heard Link.messageOver; split <;> rfl
  refine ⟨?_, ⟨fun hf => ?_, h.waiting.2⟩, h.sensing, ?_, h.peers, h.demand, h.share, h.arbiter, h.output, h.interlock⟩
  · have hc := h.control
    unfold State.hears
    rw [hlink]
    exact hc
  · exact absurd hawake (by rw [show s.awake = false from hf]; decide)
  · obtain ⟨hones, hmicros, hunread, hin⟩ := h.link.line
    have hheard : s.hears.LineSound := by
      refine ⟨?_, hmicros, ?_, ?_⟩
      · rw [State.hears_link', hlink]; exact hones
      · rw [State.hears_link', hlink]; intro hu; cases hu
      · rw [State.hears_link', Link.heard, Link.messageOver]
        split
        · next hsome => exact fun _ => hin (by simp [hsome])
        · next hnone => intro hsome; simp [hnone] at hsome
    unfold State.hears at hheard ⊢
    rw [hlink] at hheard ⊢
    exact ⟨hheard, h.link.reportCount, h.link.replyCount, h.link.noReport, h.link.noReply, h.link.attempt,
      h.link.changed, h.link.starting⟩

theorem State.Sound.hears {s : State} (h : s.Sound) (ha : s.attentive = true) : s.hears.Sound := by
  obtain ⟨hfit, hcurrent⟩ := s.sound_iff.mp h
  refine (State.sound_iff _).mpr ⟨hfit.hears ha, ?_⟩
  have hslot : s.link.heard.reportSlot = s.link.reportSlot ∧ s.link.heard.attempt = s.link.attempt := by
    unfold Link.heard Link.messageOver; split <;> exact ⟨rfl, rfl⟩
  intro r hr hs
  rw [State.hears_link'] at hr hs
  rw [Link.sendingReport, hslot.2] at hs
  exact hcurrent r (hslot.1 ▸ hr) hs

/-! ## The forms of a meaning -/

/-- A station that is awake and not reading waits for nothing. -/
theorem State.waitingSound_of_acting {s : State} (h : s.acting = true) : s.WaitingSound := by
  simp only [State.acting, Bool.and_eq_true, Bool.not_eq_true'] at h
  exact ⟨fun ha => by simp [ha] at h, fun hr => by simp [hr] at h⟩

theorem State.whenActing_sound {f : State → State} {s : State} (hs : s.Sound) (hf : s.acting = true → (f s).Fit) :
    (s.whenActing f).Sound := by
  unfold State.whenActing
  split_ifs with ha
  · exact (hf ha).watch s
  · exact hs

theorem State.onExpiry_sound {t : Timer} {f : State → State} {s : State} (hs : s.Sound)
    (hf : ∀ left, t = some left → (f (s.elapse left)).Fit) : (s.onExpiry t f).Sound := by
  cases t with
  | none => exact hs
  | some left => exact (hf left rfl).watch s

theorem State.onMessage_sound {f : State → State} {s : State} (hs : s.Sound)
    (hf : s.hears.Fit → s.hears.acting = true → (f s.hears).Fit) : (s.onMessage f).Sound := by
  unfold State.onMessage
  split_ifs with ha hr
  · exact hs.hears ha
  · refine (hf (hs.hears ha).fit ?_).watch s
    simp only [State.attentive, Bool.and_eq_true] at ha
    rw [State.acting, State.hears_awake, State.hears_control, ha.1]
    simp [hr]
  · exact hs

end Sys2Proof.Machine
end

section
/-! The mode arbiter: its marks, stack and timers agree after every raise and end. `Arbiter.Loose` is what holds before a
take, which then settles the pending modes (R106); `take_sound` is the one step that every raise and end goes through. -/

namespace Sys2Proof.Machine

/-! ## Modes, marks and timers -/

@[simp] theorem mem_raisableModes (m : Mode) : m ∈ raisableModes ↔ m ≠ .auto := by
  cases m <;> decide

/-- A mode is known by its level (6.1). -/
theorem Mode.level_inj {m k : Mode} (h : m.level = k.level) : m = k := by
  cases m <;> cases k <;> first | rfl | exact absurd h (by decide)

theorem Mode.level_eq_zero {m : Mode} : m.level = 0 ↔ m = .auto := by
  cases m <;> decide

@[simp] theorem Marks.get_auto (a : Marks) : a.get .auto = false := rfl

/-- A mark written is the mark read, and the others stand. -/
theorem Marks.get_set (a : Marks) {m : Mode} (hm : m ≠ .auto) (b : Bool) (k : Mode) :
    (a.set m b).get k = if k = m then b else a.get k := by
  cases m <;> cases k <;> first | rfl | exact absurd rfl hm

@[simp] theorem Marks.set_self (a : Marks) (m : Mode) : a.set m (a.get m) = a := by
  cases m <;> rfl

@[simp] theorem Marks.set_set (a : Marks) (m : Mode) (b c : Bool) : (a.set m b).set m c = a.set m c := by
  cases m <;> rfl

/-- A timed mode's mode is not AUTO. -/
theorem timedMode_ne_auto (k : TimedMode) : timedMode k ≠ .auto := by cases k <;> decide

/-- The length of a timed mode's timer (R113). -/
def timedLength : TimedMode → Nat
  | .precond => 1800000
  | .boost => 600000
  | .purge => 300000

theorem modeDuration_timedMode (k : TimedMode) : modeDuration (timedMode k) = some (timedLength k) := by cases k <;> rfl

/-- A mode's timer set is the timer read, and the others stand. -/
theorem Arbiter.timer_setTimer (a : Arbiter) (m : Mode) (t : Timer) (k : TimedMode) :
    (a.setTimer m t).timer k = if timedMode k = m then t else a.timer k := by
  cases m <;> cases k <;> rfl

/-- Setting a mode's timer leaves all but the mode timers. -/
theorem Arbiter.setTimer_frame (a : Arbiter) (m : Mode) (t : Timer) :
    a.setTimer m t = { a with
      precondTimer := (a.setTimer m t).precondTimer, boostTimer := (a.setTimer m t).boostTimer
      purgeTimer := (a.setTimer m t).purgeTimer } := by
  cases m <;> rfl

section
variable (a : Arbiter) (m : Mode) (t : Timer)

@[simp] theorem Arbiter.setTimer_pending : (a.setTimer m t).pending = a.pending := by cases m <;> rfl

@[simp] theorem Arbiter.setTimer_active : (a.setTimer m t).active = a.active := by cases m <;> rfl

@[simp] theorem Arbiter.setTimer_governing : (a.setTimer m t).governing = a.governing := by cases m <;> rfl

@[simp] theorem Arbiter.setTimer_stack : (a.setTimer m t).stack = a.stack := by cases m <;> rfl

@[simp] theorem Arbiter.setTimer_ownDoor : (a.setTimer m t).ownDoor = a.ownDoor := by cases m <;> rfl

@[simp] theorem Arbiter.setTimer_cause : (a.setTimer m t).cause = a.cause := by cases m <;> rfl

@[simp] theorem Arbiter.setTimer_dwell : (a.setTimer m t).dwell = a.dwell := by cases m <;> rfl

@[simp] theorem Arbiter.setTimer_tail : (a.setTimer m t).tail = a.tail := by cases m <;> rfl

@[simp] theorem Arbiter.setTimer_inForce : (a.setTimer m t).inForce = a.inForce := by
  simp [Arbiter.inForce]

end

/-! ## An arbiter before and after a take -/

/-- The marks, the stack and the timers agree, but for the pending modes that a take is still to settle (R97, R106 to
R108, R112, R113). -/
structure Arbiter.Loose (a : Arbiter) : Prop where
  depth : a.stack.length ≤ 3
  levels : (a.governing.level :: a.stack.map (·.mode.level)).Pairwise (· > ·)
  bottom : a.governing = .auto ↔ a.stack = []
  last : ∀ e ∈ a.stack.getLast?, e = { mode := .auto, retired := false }
  apart : ∀ m, ¬(a.pending.get m = true ∧ a.active.get m = true)
  inForce : ∀ m, m ≠ .auto → (a.active.get m = true ↔ m ∈ a.inForce)
  timed : ∀ k, (a.timer k).isSome ↔ a.active.get (timedMode k) = true
  lengths : ∀ k, (a.timer k).within (timedLength k)
  dwell : a.dwell.within 1000
  tail : a.tail.within 20000
  tailed : a.tail.isSome → a.cause = false ∧ (a.pending.door = true ∨ a.active.door = true)

/-- No pending mode above the governing one waits but for room in the stack (R106, R107). -/
abbrev Arbiter.Taken (a : Arbiter) : Prop :=
  ∀ m, a.pending.get m = true → a.governing.level < m.level → a.stack.length = 3

theorem Arbiter.sound_iff (a : Arbiter) : a.Sound ↔ a.Loose ∧ a.Taken := by
  have hauto : ∀ {p : Mode → Prop}, p .auto → (∀ m ∈ raisableModes, p m) → ∀ m, p m := by
    intro p hp h m
    by_cases hm : m = .auto
    · exact hm ▸ hp
    · exact h m ((mem_raisableModes m).mpr hm)
  constructor
  · rintro ⟨h1, h2, h3, h4, h5, h6, h7, h8, h9, h10, h11, h12, h13, h14, h15, h16⟩
    refine ⟨⟨h1, h2, h3, h4, hauto (by simp) h5, fun m hm => h6 m ((mem_raisableModes m).mpr hm), ?_, ?_, h14, h15, h16⟩,
      hauto (by simp) h7⟩
    · exact fun k => by cases k; exacts [h8, h10, h12]
    · exact fun k => by cases k; exacts [h9, h11, h13]
  · rintro ⟨h, htaken⟩
    exact ⟨h.depth, h.levels, h.bottom, h.last, fun m _ => h.apart m, fun m hm => h.inForce m ((mem_raisableModes m).mp hm),
      fun m _ => htaken m, h.timed .precond, h.lengths .precond, h.timed .boost, h.lengths .boost, h.timed .purge,
      h.lengths .purge, h.dwell, h.tail, h.tailed⟩

theorem Arbiter.Sound.loose {a : Arbiter} (h : a.Sound) : a.Loose := (a.sound_iff.mp h).1

theorem Arbiter.Sound.taken {a : Arbiter} (h : a.Sound) : a.Taken := (a.sound_iff.mp h).2

/-- The governing mode, where it is not AUTO, is active. -/
theorem Arbiter.Loose.governing_active {a : Arbiter} (h : a.Loose) (hg : a.governing ≠ .auto) :
    a.active.get a.governing = true :=
  (h.inForce _ hg).mpr (by simp [Arbiter.inForce])

/-- Every stack entry lies below the governing mode. -/
theorem Arbiter.Loose.below {a : Arbiter} (h : a.Loose) {e : StackEntry} (he : e ∈ a.stack) :
    e.mode.level < a.governing.level :=
  (List.pairwise_cons.mp h.levels).1 _ (List.mem_map_of_mem he)

/-! ## Taking -/

/-- The candidate is pending, above the governing mode, and the highest such mode (R106). -/
theorem Arbiter.candidate_spec {a : Arbiter} {m : Mode} (h : a.candidate = some m) :
    m ≠ .auto ∧ a.pending.get m = true ∧ a.governing.level < m.level
    ∧ ∀ k, a.pending.get k = true → a.governing.level < k.level → k.level ≤ m.level := by
  have hmem := List.mem_of_find?_eq_some h
  obtain ⟨hm, above, below, hsplit, habove⟩ := List.find?_eq_some_iff_append.mp h
  simp only [Bool.and_eq_true, decide_eq_true_eq] at hm
  refine ⟨(mem_raisableModes m).mp hmem, hm.1, hm.2, fun k hk hl => ?_⟩
  have hkmem : k ∈ above ++ m :: below := hsplit ▸ (mem_raisableModes k).mpr (by rintro rfl; cases hk)
  have hdescending : raisableModes.Pairwise fun x y => y.level < x.level := by decide
  rw [hsplit, List.pairwise_append] at hdescending
  rcases List.mem_append.mp hkmem with hin | hin
  · have hnot := habove k hin
    simp [hk, hl] at hnot
  · rcases List.mem_cons.mp hin with rfl | hin
    · exact le_refl _
    · exact le_of_lt ((List.pairwise_cons.mp hdescending.2.1).1 k hin)

/-- Where there is no candidate, no pending mode lies above the governing one. -/
theorem Arbiter.candidate_none {a : Arbiter} (h : a.candidate = none) (m : Mode) (hm : a.pending.get m = true) :
    ¬ a.governing.level < m.level := by
  intro hl
  have hmem := (mem_raisableModes m).mpr (by rintro rfl; cases hm)
  simpa [hm, hl] using List.find?_eq_none.mp h m hmem

/-- A mode put in force over a lower governing one leaves the arbiter in agreement (R106). -/
theorem Arbiter.Loose.put {a : Arbiter} (h : a.Loose) {m : Mode} (hm : m ≠ .auto) (hroom : a.stack.length < 3)
    (habove : a.governing.level < m.level) : (a.put m).Loose := by
  have hdoor : ∀ {p q : Marks}, p.door = true ∨ q.door = true → (p.set m false).door = true ∨ (q.set m true).door = true := by
    intro p q hpq
    cases m <;> first | exact hpq | exact .inr rfl
  constructor
  · simpa [Arbiter.put] using hroom
  · rw [Arbiter.put, Arbiter.setTimer_governing, Arbiter.setTimer_stack]
    refine List.pairwise_cons.mpr ⟨fun l hl => ?_, h.levels⟩
    rcases List.mem_cons.mp hl with rfl | hl
    · exact habove
    · obtain ⟨e, he, rfl⟩ := List.mem_map.mp hl
      exact (h.below he).trans habove
  · simp [Arbiter.put, hm]
  · intro e he
    rw [Arbiter.put, Arbiter.setTimer_stack, List.getLast?_cons] at he
    cases hs : a.stack.getLast? with
    | none =>
      rw [hs] at he
      obtain rfl := Option.some.inj he
      rw [h.bottom.mpr (List.getLast?_eq_none_iff.mp hs), Option.getD_none]
    | some x =>
      rw [hs] at he
      obtain rfl := Option.some.inj he
      exact h.last _ hs
  · intro k
    simp only [Arbiter.put, Arbiter.setTimer_pending, Arbiter.setTimer_active, Marks.get_set _ hm]
    split_ifs
    · simp
    · exact h.apart k
  · intro k hk
    have hnew : (a.put m).inForce = m :: a.inForce := by simp [Arbiter.put, Arbiter.inForce]
    rw [hnew, List.mem_cons, ← h.inForce k hk]
    simp only [Arbiter.put, Arbiter.setTimer_active, Marks.get_set _ hm]
    split_ifs with heq <;> simp [heq]
  · intro k
    rw [Arbiter.put, Arbiter.timer_setTimer, Arbiter.setTimer_active]
    simp only [Marks.get_set _ hm]
    split_ifs with heq
    · simp [← heq, modeDuration_timedMode]
    · exact h.timed k
  · intro k
    rw [Arbiter.put, Arbiter.timer_setTimer]
    split_ifs with heq
    · rw [← heq, modeDuration_timedMode]
      rintro left ⟨⟩
      exact le_refl _
    · exact h.lengths k
  · simpa only [Arbiter.put, Arbiter.setTimer_dwell] using h.dwell
  · simpa only [Arbiter.put, Arbiter.setTimer_tail] using h.tail
  · simp only [Arbiter.put, Arbiter.setTimer_tail, Arbiter.setTimer_cause, Arbiter.setTimer_pending,
      Arbiter.setTimer_active]
    intro ht
    exact ⟨(h.tailed ht).1, hdoor (h.tailed ht).2⟩

/-- A take settles the pending modes: the highest one is put in force, or the stack is full (R106, R107). -/
theorem Arbiter.Loose.take {a : Arbiter} (h : a.Loose) : a.take.Sound := by
  unfold Arbiter.take
  split
  · next hnone => exact (a.sound_iff).mpr ⟨h, fun m hm hl => absurd hl (Arbiter.candidate_none hnone m hm)⟩
  · next m hsome =>
    obtain ⟨hm, hpending, habove, hhighest⟩ := Arbiter.candidate_spec hsome
    split_ifs with hroom
    · refine (Arbiter.sound_iff _).mpr ⟨h.put hm hroom habove, fun k hk hl => ?_⟩
      simp only [Arbiter.put, Arbiter.setTimer_pending, Arbiter.setTimer_governing, Marks.get_set _ hm] at hk hl
      split_ifs at hk
      have := hhighest k hk (habove.trans hl)
      omega
    · refine (a.sound_iff).mpr ⟨h, fun _ _ _ => ?_⟩
      have := h.depth
      simp only [Config.stackDepth] at hroom
      omega

/-! ## Raising -/

/-- A mode marked pending, where it is not active, leaves the arbiter in agreement but for the take. -/
theorem Arbiter.Loose.mark {a : Arbiter} (h : a.Loose) {m : Mode} (hm : m ≠ .auto) (ha : a.active.get m = false) :
    Arbiter.Loose { a with pending := a.pending.set m true } := by
  refine ⟨h.depth, h.levels, h.bottom, h.last, fun k => ?_, h.inForce, h.timed, h.lengths, h.dwell, h.tail, fun ht => ?_⟩
  · simp only [Marks.get_set _ hm]
    split_ifs with heq
    · simp [heq, ha]
    · exact h.apart k
  · refine ⟨(h.tailed ht).1, (h.tailed ht).2.imp_left fun hd => ?_⟩
    cases m <;> first | exact hd | rfl

/-- An active timed mode's timer started again leaves the arbiter sound (R105). -/
theorem Arbiter.Sound.retime {a : Arbiter} (h : a.Sound) {m : Mode} {d : Nat} (hd : modeDuration m = some d)
    (ha : a.active.get m = true) : (a.setTimer m (some d)).Sound := by
  obtain ⟨hl, ht⟩ := a.sound_iff.mp h
  refine (Arbiter.sound_iff _).mpr ⟨⟨?_, ?_, ?_, ?_, ?_, ?_, fun k => ?_, fun k => ?_, ?_, ?_, ?_⟩, ?_⟩
  case refine_7 =>
    rw [Arbiter.timer_setTimer, Arbiter.setTimer_active]
    split_ifs with heq
    · simp [heq, ha]
    · exact hl.timed k
  case refine_8 =>
    rw [Arbiter.timer_setTimer]
    split_ifs with heq
    · rw [← heq, modeDuration_timedMode] at hd
      rintro left ⟨⟩
      exact le_of_eq (Option.some.inj hd).symm
    · exact hl.lengths k
  all_goals simp only [Arbiter.setTimer_stack, Arbiter.setTimer_governing, Arbiter.setTimer_pending,
    Arbiter.setTimer_active, Arbiter.setTimer_inForce, Arbiter.setTimer_dwell, Arbiter.setTimer_tail,
    Arbiter.setTimer_cause, Arbiter.Taken]
  exacts [hl.depth, hl.levels, hl.bottom, hl.last, hl.apart, hl.inForce, hl.dwell, hl.tail, hl.tailed, ht]

/-- A raise keeps the arbiter sound (R105). -/
theorem Arbiter.Sound.raise {a : Arbiter} (h : a.Sound) {m : Mode} (hm : m ≠ .auto) : (a.raise m).Sound := by
  unfold Arbiter.raise
  split_ifs with hp ha
  · exact h
  · split
    · next d hd => exact h.retime hd ha
    · exact h
  · exact (h.loose.mark hm (by simpa using ha)).take

/-! ## Ending -/

/-- The pops of R110 end at the first entry that is not retired. -/
theorem popped_eq (stack : List StackEntry) :
    popped stack = (((stack.dropWhile (·.retired)).head?.map (·.mode)).getD .auto, (stack.dropWhile (·.retired)).tail) := by
  induction stack with
  | nil => rfl
  | cons e rest ih =>
    unfold popped
    cases he : e.retired <;> simp [he, ih]

/-- The pops leave, of a stack that ends in AUTO, an arbiter's governing mode and stack in order, and the modes in force
without the one that governed. -/
theorem popped_spec {stack : List StackEntry} (hlevels : (stack.map (·.mode.level)).Pairwise (· > ·))
    (hlast : ∀ e ∈ stack.getLast?, e = { mode := .auto, retired := false }) (hne : stack ≠ []) :
    (popped stack).2.length < stack.length
    ∧ ((popped stack).1.level :: (popped stack).2.map (·.mode.level)).Pairwise (· > ·)
    ∧ ((popped stack).1 = .auto ↔ (popped stack).2 = [])
    ∧ (∀ e ∈ (popped stack).2.getLast?, e = { mode := .auto, retired := false })
    ∧ (popped stack).1 :: ((popped stack).2.filter (!·.retired)).map (·.mode)
        = (stack.filter (!·.retired)).map (·.mode) := by
  induction stack with
  | nil => exact absurd rfl hne
  | cons e rest ih =>
    unfold popped
    cases hr : e.retired with
    | true =>
      have hrest : rest ≠ [] := by
        rintro rfl
        have := hlast e rfl
        rw [this] at hr
        cases hr
      have hlast' : ∀ x ∈ rest.getLast?, x = { mode := .auto, retired := false } := by
        intro x hx
        exact hlast x (by rw [List.getLast?_cons, hx]; rfl)
      obtain ⟨h1, h2, h3, h4, h5⟩ := ih (List.pairwise_cons.mp hlevels).2 hlast' hrest
      simp only [if_true, hr, Bool.not_true, List.filter_cons, Bool.false_eq_true, if_false, List.length_cons]
      exact ⟨h1.trans (Nat.lt_succ_self _), h2, h3, h4, h5⟩
    | false =>
      simp only [Bool.false_eq_true, if_false, hr, Bool.not_false, List.filter_cons, if_true, List.length_cons,
        List.map_cons]
      refine ⟨Nat.lt_succ_self _, by simpa using hlevels, ?_, ?_, trivial⟩
      · constructor
        · intro hauto
          cases rest with
          | nil => rfl
          | cons x xs =>
            have hbelow := (List.pairwise_cons.mp hlevels).1 x.mode.level (by simp)
            simp only [hauto] at hbelow
            exact absurd hbelow (Nat.not_lt_zero _)
        · rintro rfl
          exact congrArg StackEntry.mode (hlast e rfl)
      · intro x hx
        exact hlast x (by rw [List.getLast?_cons, hx]; rfl)

/-- The end of the governing mode, before the take (R110). -/
def Arbiter.unseated (a : Arbiter) : Arbiter :=
  { a with
    active := a.active.set a.governing false
    governing := (popped a.stack).1
    stack := (popped a.stack).2 }.setTimer a.governing none

theorem Arbiter.finishGoverning_eq (a : Arbiter) : a.finishGoverning = a.unseated.take := rfl

/-- The DOOR tail runs only over a DOOR that is pending or active, so DOOR ends only with its tail stopped. -/
abbrev Arbiter.MayEnd (a : Arbiter) (m : Mode) : Prop := m = .door → a.tail = none

theorem Arbiter.Loose.unseated {a : Arbiter} (h : a.Loose) (hg : a.governing ≠ .auto) (hend : a.MayEnd a.governing) :
    a.unseated.Loose := by
  have hne : a.stack ≠ [] := fun hs => hg (h.bottom.mpr hs)
  obtain ⟨h1, h2, h3, h4, h5⟩ := popped_spec (List.pairwise_cons.mp h.levels).2 h.last hne
  have hbelow : a.governing ∉ (a.stack.filter (!·.retired)).map (·.mode) := by
    intro hin
    obtain ⟨e, he, heq⟩ := List.mem_map.mp hin
    have := h.below (List.mem_of_mem_filter he)
    rw [heq] at this
    exact lt_irrefl _ this
  unfold Arbiter.unseated
  refine ⟨?_, ?_, ?_, ?_, fun k => ?_, fun k hk => ?_, fun k => ?_, fun k => ?_, ?_, ?_, ?_⟩
  · rw [Arbiter.setTimer_stack]
    exact h1.le.trans h.depth
  · rw [Arbiter.setTimer_stack, Arbiter.setTimer_governing]
    exact h2
  · rw [Arbiter.setTimer_stack, Arbiter.setTimer_governing]
    exact h3
  · rw [Arbiter.setTimer_stack]
    exact h4
  · simp only [Arbiter.setTimer_pending, Arbiter.setTimer_active, Marks.get_set _ hg]
    split_ifs
    · simp
    · exact h.apart k
  · rw [Arbiter.setTimer_inForce, Arbiter.setTimer_active, Arbiter.inForce, h5]
    simp only [Marks.get_set _ hg]
    split_ifs with heq
    · subst heq
      simpa using hbelow
    · rw [h.inForce k hk, Arbiter.inForce, List.mem_cons, or_iff_right heq]
  · rw [Arbiter.timer_setTimer, Arbiter.setTimer_active]
    simp only [Marks.get_set _ hg]
    split_ifs with heq
    · simp
    · exact h.timed k
  · rw [Arbiter.timer_setTimer]
    split_ifs with heq
    · rintro left ⟨⟩
    · exact h.lengths k
  · simpa only [Arbiter.setTimer_dwell] using h.dwell
  · simpa only [Arbiter.setTimer_tail] using h.tail
  · simp only [Arbiter.setTimer_tail, Arbiter.setTimer_cause, Arbiter.setTimer_pending, Arbiter.setTimer_active]
    intro ht
    have hdoor : a.governing ≠ .door := fun hd => by simp [hend hd] at ht
    have hstands : (a.active.set a.governing false).door = a.active.door := by
      cases hgov : a.governing <;> first | rfl | exact absurd hgov hdoor
    rw [hstands]
    exact h.tailed ht

/-- A buried mode retired in its place leaves the arbiter sound (R111). -/
theorem Arbiter.Sound.bury {a : Arbiter} (h : a.Sound) {m : Mode} (hm : m ≠ .auto) (hg : a.governing ≠ m)
    (hend : a.MayEnd m) :
    ({ a with active := a.active.set m false, stack := retire m a.stack }.setTimer m none).Sound := by
  obtain ⟨hl, htaken⟩ := a.sound_iff.mp h
  have hmodes : (retire m a.stack).map (·.mode) = a.stack.map (·.mode) := by
    rw [retire, List.map_map]
    exact List.map_congr_left fun e _ => by simp only [Function.comp_apply]; split_ifs <;> rfl
  have hlength : (retire m a.stack).length = a.stack.length := by simp [retire]
  have hforce : ∀ k, k ∈ ((retire m a.stack).filter (!·.retired)).map (·.mode)
      ↔ k ≠ m ∧ k ∈ (a.stack.filter (!·.retired)).map (·.mode) := by
    intro k
    simp only [retire, List.filter_map, List.map_map, List.mem_map, List.mem_filter, Function.comp_apply]
    constructor
    · rintro ⟨e, ⟨he, hr⟩, rfl⟩
      split_ifs at hr ⊢ with heq
      · simp at hr
      · exact ⟨heq, e, ⟨he, hr⟩, rfl⟩
    · rintro ⟨hk, e, ⟨he, hr⟩, rfl⟩
      exact ⟨e, ⟨he, by simpa [hk] using hr⟩, by simp [hk]⟩
  refine (Arbiter.sound_iff _).mpr ⟨⟨?_, ?_, ?_, ?_, fun k => ?_, fun k hk => ?_, fun k => ?_, fun k => ?_, ?_, ?_, ?_⟩, ?_⟩
  · rw [Arbiter.setTimer_stack]
    exact hlength.le.trans hl.depth
  · rw [Arbiter.setTimer_stack, Arbiter.setTimer_governing]
    have hlevels : (retire m a.stack).map (·.mode.level) = a.stack.map (·.mode.level) := by
      simpa only [List.map_map, Function.comp_def] using congrArg (List.map Mode.level) hmodes
    simp only [hlevels]
    exact hl.levels
  · rw [Arbiter.setTimer_stack, Arbiter.setTimer_governing, ← List.length_eq_zero_iff, hlength, List.length_eq_zero_iff]
    exact hl.bottom
  · rw [Arbiter.setTimer_stack]
    intro e he
    simp only [retire, List.getLast?_map, Option.mem_def, Option.map_eq_some_iff] at he
    obtain ⟨x, hx, rfl⟩ := he
    rw [hl.last x hx, if_neg (Ne.symm hm)]
  · simp only [Arbiter.setTimer_pending, Arbiter.setTimer_active, Marks.get_set _ hm]
    split_ifs
    · simp
    · exact hl.apart k
  · rw [Arbiter.setTimer_inForce, Arbiter.setTimer_active, Arbiter.inForce, List.mem_cons, hforce]
    have hin := hl.inForce k hk
    rw [Arbiter.inForce, List.mem_cons] at hin
    simp only [Marks.get_set _ hm]
    split_ifs with heq
    · simp [heq, Ne.symm hg]
    · simp [heq, hin]
  · rw [Arbiter.timer_setTimer, Arbiter.setTimer_active]
    simp only [Marks.get_set _ hm]
    split_ifs with heq
    · simp
    · exact hl.timed k
  · rw [Arbiter.timer_setTimer]
    split_ifs with heq
    · rintro left ⟨⟩
    · exact hl.lengths k
  · simpa only [Arbiter.setTimer_dwell] using hl.dwell
  · simpa only [Arbiter.setTimer_tail] using hl.tail
  · simp only [Arbiter.setTimer_tail, Arbiter.setTimer_cause, Arbiter.setTimer_pending, Arbiter.setTimer_active]
    intro ht
    have hstands : (a.active.set m false).door = a.active.door := by
      cases hmode : m <;> first | rfl | exact absurd ht (by simp [hend hmode])
    rw [hstands]
    exact hl.tailed ht
  · simp only [Arbiter.Taken, Arbiter.setTimer_pending, Arbiter.setTimer_governing, Arbiter.setTimer_stack, hlength]
    exact htaken

/-- A pending mode that ends loses its mark (R109). -/
theorem Arbiter.Sound.unmark {a : Arbiter} (h : a.Sound) {m : Mode} (hm : m ≠ .auto) (hend : a.MayEnd m) :
    Arbiter.Sound { a with pending := a.pending.set m false } := by
  obtain ⟨hl, htaken⟩ := a.sound_iff.mp h
  have hget : ∀ k, (a.pending.set m false).get k = true → a.pending.get k = true := by
    intro k hk
    rw [Marks.get_set _ hm] at hk
    split_ifs at hk
    exact hk
  refine (Arbiter.sound_iff _).mpr ⟨⟨hl.depth, hl.levels, hl.bottom, hl.last, fun k hk => hl.apart k ⟨hget k hk.1, hk.2⟩,
    hl.inForce, hl.timed, hl.lengths, hl.dwell, hl.tail, fun ht => ?_⟩, fun k hk => htaken k (hget k hk)⟩
  have hstands : (a.pending.set m false).door = a.pending.door := by
    cases hmode : m <;> first | rfl | exact absurd ht (by simp [hend hmode])
  simp only [hstands]
  exact hl.tailed ht

/-- The end of a mode keeps the arbiter sound (R109 to R111). -/
theorem Arbiter.Sound.finish {a : Arbiter} (h : a.Sound) {m : Mode} (hend : a.MayEnd m) : (a.finish m).Sound := by
  unfold Arbiter.finish
  split_ifs with hp ha hg
  · exact h.unmark (by rintro rfl; cases hp) hend
  · subst hg
    exact (h.loose.unseated (by rintro hg; rw [hg] at ha; cases ha) hend).take
  · exact h.bury (by rintro rfl; cases ha) hg hend
  · exact h

end Sys2Proof.Machine
end

section
/-! O39 (R105 to R113): a raise and an end written out. Both turn on the take: with room in the stack, no mode but the one
raised waits above the governing one, and after an end the highest waiting mode is taken. -/

namespace Sys2Proof.Machine

/-! ## The take written out -/

/-- The candidate is the first waiting mode of the list. -/
theorem Arbiter.candidate_eq_head (a : Arbiter) :
    a.candidate
      = (raisableModes.filter fun w => a.pending.get w && decide (a.governing.level < w.level)).head? :=
  (List.head?_filter ..).symm

/-- A take without a candidate, or without room, changes nothing. -/
theorem Arbiter.take_of_none {a : Arbiter} (h : a.candidate = none) : a.take = a := by simp [Arbiter.take, h]

theorem Arbiter.take_of_full {a : Arbiter} (h : 3 ≤ a.stack.length) : a.take = a := by
  unfold Arbiter.take
  split
  · rfl
  · exact if_neg (Nat.not_lt.mpr h)

theorem Arbiter.take_of_some {a : Arbiter} {m : Mode} (h : a.candidate = some m) (hroom : a.stack.length < 3) :
    a.take = a.put m := by
  simp [Arbiter.take, h, Config.stackDepth, hroom]

/-- Where no mode but `m` waits above the governing one, `m` is the candidate. -/
theorem Arbiter.candidate_of_only {a : Arbiter} {m : Mode} (hm : a.pending.get m = true)
    (habove : a.governing.level < m.level)
    (honly : ∀ k, a.pending.get k = true → a.governing.level < k.level → k = m) : a.candidate = some m := by
  cases hc : a.candidate with
  | none => exact absurd habove (Arbiter.candidate_none hc m hm)
  | some k =>
    obtain ⟨-, hk, hl, -⟩ := Arbiter.candidate_spec hc
    rw [honly k hk hl]

/-- A mode marked, where it carries no mark: taken at once where it lies above the governing mode and the stack has room
(R105 to R107). -/
theorem Arbiter.Sound.raise_unmarked {a : Arbiter} (h : a.Sound) {m : Mode} (hm : m ≠ .auto)
    (hp : a.pending.get m = false) (ha : a.active.get m = false) :
    a.raise m =
      if a.governing.level < m.level ∧ a.stack.length < 3 then
        { a with
          active := a.active.set m true, governing := m
          stack := { mode := a.governing, retired := false } :: a.stack }.setTimer m (modeDuration m)
      else { a with pending := a.pending.set m true } := by
  have hraise : a.raise m = Arbiter.take { a with pending := a.pending.set m true } := by
    simp [Arbiter.raise, hp, ha]
  have hmarks : ∀ k, (a.pending.set m true).get k = true → k = m ∨ a.pending.get k = true := by
    intro k hk
    rw [Marks.get_set _ hm] at hk
    split_ifs at hk with heq
    · exact .inl heq
    · exact .inr hk
  rw [hraise]
  by_cases hroom : a.stack.length < 3
  · by_cases habove : a.governing.level < m.level
    · have hcandidate : Arbiter.candidate { a with pending := a.pending.set m true } = some m := by
        refine Arbiter.candidate_of_only (by simp [Marks.get_set _ hm]) habove fun k hk hl => ?_
        refine (hmarks k hk).resolve_right fun hk => ?_
        have := h.taken k hk hl
        omega
      have hback : (a.pending.set m true).set m false = a.pending := by
        rw [Marks.set_set, ← hp, Marks.set_self]
      rw [Arbiter.take_of_some hcandidate hroom, if_pos ⟨habove, hroom⟩, Arbiter.put, hback]
    · have hcandidate : Arbiter.candidate { a with pending := a.pending.set m true } = none := by
        cases hc : Arbiter.candidate { a with pending := a.pending.set m true } with
        | none => rfl
        | some k =>
          obtain ⟨-, hk, hl, -⟩ := Arbiter.candidate_spec hc
          obtain rfl | hk := hmarks k hk
          · exact absurd hl habove
          · have := h.taken k hk hl
            omega
      rw [Arbiter.take_of_none hcandidate, if_neg fun hboth => habove hboth.1]
  · rw [if_neg fun hboth => hroom hboth.2]
    exact Arbiter.take_of_full (Nat.not_lt.mp hroom)

/-- The end of the governing mode, written out (R110). -/
theorem Arbiter.Sound.finishGoverning_eq {a : Arbiter} (h : a.Sound) (hg : a.governing ≠ .auto) :
    let unmarked := { a with active := a.active.set a.governing false }.setTimer a.governing none
    let left := a.stack.dropWhile (·.retired)
    let next := (left.head?.map (·.mode)).getD .auto
    let waiting := raisableModes.filter fun w => a.pending.get w && decide (next.level < w.level)
    a.finishGoverning = match waiting.head? with
      | none => { unmarked with governing := next, stack := left.tail }
      | some w =>
        { unmarked with
          pending := a.pending.set w false, active := unmarked.active.set w true, governing := w
          stack := { mode := next, retired := false } :: left.tail }.setTimer w (modeDuration w) := by
  intro unmarked left next waiting
  have hunseated : a.unseated = { unmarked with governing := next, stack := left.tail } := by
    simp only [Arbiter.unseated, popped_eq, unmarked, next, left]
    cases a.governing <;> rfl
  have hpending : unmarked.pending = a.pending := by simp [unmarked]
  have hcandidate : a.unseated.candidate = waiting.head? := by
    rw [Arbiter.candidate_eq_head, hunseated]
    simp only [hpending, waiting]
  have hroom : left.tail.length < 3 := by
    have hne : a.stack ≠ [] := fun hs => hg (h.loose.bottom.mpr hs)
    have hpop := (popped_spec (List.pairwise_cons.mp h.loose.levels).2 h.loose.last hne).1
    rw [popped_eq] at hpop
    exact hpop.trans_le h.loose.depth
  rw [Arbiter.finishGoverning_eq]
  cases hw : waiting.head? with
  | none => rw [Arbiter.take_of_none (hcandidate.trans hw), hunseated]
  | some w =>
    rw [Arbiter.take_of_some (hcandidate.trans hw) (by rw [hunseated]; exact hroom), hunseated, Arbiter.put]
    simp only [hpending]

/-- Settles O39, from the take written out. -/
theorem modesRaisedAndEnded : Obligations.ModesRaisedAndEnded := by
  unfold Obligations.ModesRaisedAndEnded
  intro a
  refine ⟨fun h m hm => ?_, fun h m hm => ?_⟩
  · rw [mem_raisableModes] at hm
    refine ⟨fun hp => by simp [Arbiter.raise, hp], fun ha => ?_, h.raise_unmarked hm⟩
    have hp : a.pending.get m = false := Bool.eq_false_iff.mpr fun hp => h.loose.apart m ⟨hp, ha⟩
    exact (if_neg (by rw [hp]; exact Bool.false_ne_true)).trans (if_pos ha)
  · rw [mem_raisableModes] at hm
    refine ⟨fun hp => by simp [Arbiter.finish, hp], fun hp ha => by simp [Arbiter.finish, hp, ha], fun ha hg => ?_,
      fun hg => ?_⟩
    · have hp : a.pending.get m = false := Bool.eq_false_iff.mpr fun hp => h.loose.apart m ⟨hp, ha⟩
      simp only [Arbiter.finish, hp, ha, hg, Bool.false_eq_true, if_false, if_true]
      cases m <;> rfl
    · subst hg
      have ha := h.loose.governing_active hm
      have hp : a.pending.get a.governing = false := Bool.eq_false_iff.mpr fun hp => h.loose.apart _ ⟨hp, ha⟩
      have hfinish : a.finish a.governing = a.finishGoverning := by simp [Arbiter.finish, hp, ha]
      rw [hfinish]
      exact h.finishGoverning_eq hm

end Sys2Proof.Machine
end

section
/-! The arbiter in its station: what a raise, an end and a judged DOOR cause leave of the door's part, and that they keep
`State.ArbiterSound` (R101 to R104, R121, R122). -/

namespace Sys2Proof.Machine

/-! ## The door's part and the marks -/

/-- A change of the arbiter that leaves its door part: the own condition, the dwell, the cause and the tail. -/
structure Arbiter.KeepsDoor (a b : Arbiter) : Prop where
  ownDoor : b.ownDoor = a.ownDoor
  dwell : b.dwell = a.dwell
  cause : b.cause = a.cause
  tail : b.tail = a.tail

theorem Arbiter.KeepsDoor.refl (a : Arbiter) : a.KeepsDoor a := ⟨rfl, rfl, rfl, rfl⟩

theorem Arbiter.KeepsDoor.trans {a b c : Arbiter} (h : a.KeepsDoor b) (k : b.KeepsDoor c) : a.KeepsDoor c :=
  ⟨k.ownDoor.trans h.ownDoor, k.dwell.trans h.dwell, k.cause.trans h.cause, k.tail.trans h.tail⟩

theorem Arbiter.keepsDoor_setTimer (a : Arbiter) (m : Mode) (t : Timer) : a.KeepsDoor (a.setTimer m t) :=
  ⟨by simp, by simp, by simp, by simp⟩

theorem Arbiter.keepsDoor_take (a : Arbiter) : a.KeepsDoor a.take := by
  unfold Arbiter.take
  split
  · exact .refl a
  · split_ifs
    · exact ⟨by simp [Arbiter.put], by simp [Arbiter.put], by simp [Arbiter.put], by simp [Arbiter.put]⟩
    · exact .refl a

theorem Arbiter.keepsDoor_raise (m : Mode) (a : Arbiter) : a.KeepsDoor (a.raise m) := by
  unfold Arbiter.raise
  split_ifs
  · exact .refl a
  · split
    · exact a.keepsDoor_setTimer m _
    · exact .refl a
  · refine .trans ?_ (Arbiter.keepsDoor_take _)
    exact ⟨rfl, rfl, rfl, rfl⟩

theorem Arbiter.keepsDoor_finish (m : Mode) (a : Arbiter) : a.KeepsDoor (a.finish m) := by
  unfold Arbiter.finish
  split_ifs
  · exact ⟨rfl, rfl, rfl, rfl⟩
  · rw [Arbiter.finishGoverning_eq]
    exact .trans ⟨by simp [Arbiter.unseated], by simp [Arbiter.unseated], by simp [Arbiter.unseated],
      by simp [Arbiter.unseated]⟩ a.unseated.keepsDoor_take
  · refine .trans ?_ (Arbiter.keepsDoor_setTimer _ m none)
    exact ⟨rfl, rfl, rfl, rfl⟩
  · exact .refl a

/-- A mode that carries a mark, pending or active. -/
abbrev Arbiter.Marked (a : Arbiter) (k : Mode) : Prop := a.pending.get k = true ∨ a.active.get k = true

theorem Arbiter.marked_take (a : Arbiter) (k : Mode) : a.take.Marked k ↔ a.Marked k := by
  unfold Arbiter.take
  split
  · rfl
  · next m hm =>
    obtain ⟨hne, hp, -⟩ := Arbiter.candidate_spec hm
    split_ifs
    · simp only [Arbiter.Marked, Arbiter.put, Arbiter.setTimer_pending, Arbiter.setTimer_active, Marks.get_set _ hne]
      by_cases hk : k = m
      · simp [hk, hp]
      · simp [hk]
    · rfl

/-- A raise marks its mode and leaves the marks of the others. -/
theorem Arbiter.marked_raise (a : Arbiter) {m : Mode} (hm : m ≠ .auto) (k : Mode) :
    (a.raise m).Marked k ↔ k = m ∨ a.Marked k := by
  unfold Arbiter.raise
  split_ifs with hp ha
  · exact ⟨.inr, fun h => h.elim (fun hk => hk ▸ .inl hp) id⟩
  · have hself : a.Marked k ↔ k = m ∨ a.Marked k := ⟨.inr, fun h => h.elim (fun hk => hk ▸ .inr ha) id⟩
    split
    · simpa only [Arbiter.Marked, Arbiter.setTimer_pending, Arbiter.setTimer_active] using hself
    · exact hself
  · rw [Arbiter.marked_take, Arbiter.Marked, Marks.get_set _ hm]
    by_cases hk : k = m <;> simp [hk]

/-- An end takes the marks of its mode alone. -/
theorem Arbiter.marked_finish (a : Arbiter) (m : Mode) {k : Mode} (hk : k ≠ m) : (a.finish m).Marked k ↔ a.Marked k := by
  unfold Arbiter.finish
  split_ifs with hp ha hg
  · have hm : m ≠ .auto := by rintro rfl; cases hp
    simp [Arbiter.Marked, Marks.get_set _ hm, hk]
  · subst hg
    have hm : a.governing ≠ .auto := by intro hg; rw [hg] at ha; cases ha
    rw [Arbiter.finishGoverning_eq, Arbiter.marked_take]
    simp [Arbiter.Marked, Arbiter.unseated, Marks.get_set _ hm, hk]
  · have hm : m ≠ .auto := by rintro rfl; cases ha
    simp [Arbiter.Marked, Marks.get_set _ hm, hk]
  · rfl

/-- A mode without a mark has nothing to end. -/
theorem Arbiter.finish_of_unmarked {a : Arbiter} {m : Mode} (h : ¬ a.Marked m) : a.finish m = a := by
  simp only [Arbiter.Marked, not_or] at h
  simp [Arbiter.finish, h.1, h.2]

/-- The end of DOOR takes its marks. -/
theorem Arbiter.Sound.unmarked_finish {a : Arbiter} (h : a.Sound) {m : Mode} (hm : m ≠ .auto) : ¬(a.finish m).Marked m := by
  have hapart := h.loose.apart m
  unfold Arbiter.finish
  split_ifs with hp ha hg
  · have ha : ¬ a.active.get m = true := fun ha => hapart ⟨hp, ha⟩
    simp [Arbiter.Marked, Marks.get_set _ hm, ha]
  · subst hg
    rw [Arbiter.finishGoverning_eq, Arbiter.marked_take]
    simp [Arbiter.Marked, Arbiter.unseated, Marks.get_set _ hm, hp]
  · simp [Arbiter.Marked, Marks.get_set _ hm, hp]
  · simp [Arbiter.Marked, hp, ha]

/-! ## The adjacent door condition -/

theorem adjacentTo_iff (own number : Nat) : adjacentTo own number = true ↔ number + 1 = own ∨ number = own + 1 := by
  simp [adjacentTo]

/-- The adjacent door condition, as the peer block and the statements write it (R43). -/
theorem adjacentDoor_eq (s : State) : adjacentDoor s.own s.peers.table = s.neighbourDoor := by
  rw [adjacentDoor, liveNeighbours, List.any_filter, State.neighbourDoor]
  congr 1
  funext e
  rw [Bool.eq_iff_iff]
  simp [adjacentTo_iff]
  tauto

/-- The DOOR cause's conditions, as the arbiter and the statements write them (R102). -/
theorem State.doorCause_eq (s : State) : s.doorCause = s.doorHolds := by
  rw [State.doorCause, State.doorHolds, adjacentDoor_eq]

/-! ## The arbiter in its station -/

/-- The arbiter in its station, but for the DOOR cause, which a change of its conditions leaves to be judged. -/
structure State.ArbiterReady (s : State) : Prop where
  sound : s.arbiter.Sound
  cleared : s.control.state ≠ .running →
    s.arbiter.pending = .none ∧ s.arbiter.active = .none ∧ s.arbiter.governing = .auto ∧ s.arbiter.stack = []
    ∧ s.arbiter.tail = none
  raised : s.control.state = .running → s.arbiter.cause = true →
    s.arbiter.pending.door = true ∨ s.arbiter.active.door = true
  ownDoor : s.arbiter.ownDoor = true → s.cfg.doorZone = true ∧ s.pins.doorOpen = true
  dwell : s.arbiter.dwell.isSome → s.cfg.doorZone = true ∧ s.pins.doorOpen = true

theorem State.arbiterSound_iff (s : State) : s.ArbiterSound ↔ s.ArbiterReady ∧ s.arbiter.cause = s.doorHolds := by
  constructor
  · rintro ⟨h1, h2, h3, h4, h5, h6⟩
    exact ⟨⟨h1, h2, h3, h5, h6⟩, h4⟩
  · rintro ⟨⟨h1, h2, h3, h5, h6⟩, h4⟩
    exact ⟨h1, h2, h3, h4, h5, h6⟩

theorem State.ArbiterSound.ready {s : State} (h : s.ArbiterSound) : s.ArbiterReady := (s.arbiterSound_iff.mp h).1

theorem State.ArbiterReady.unmarked {s : State} (h : s.ArbiterReady) (hs : s.control.state ≠ .running) (m : Mode) :
    ¬ s.arbiter.Marked m := by
  obtain ⟨hp, ha, -⟩ := h.cleared hs
  rw [Arbiter.Marked, hp, ha]
  cases m <;> decide

/-- A change of modes keeps the arbiter sound in its station where it keeps the arbiter's own law and the marks of DOOR,
and where the station is not in RUNNING changes nothing. -/
theorem State.ArbiterSound.change {s : State} (h : s.ArbiterSound) {b : Arbiter} (hb : b.Sound)
    (hkeeps : s.arbiter.KeepsDoor b) (hdoor : s.arbiter.cause = true → s.arbiter.Marked .door → b.Marked .door)
    (hidle : s.control.state ≠ .running → b = s.arbiter) : State.ArbiterSound { s with arbiter := b } := by
  obtain ⟨hr, hcause⟩ := s.arbiterSound_iff.mp h
  refine (State.arbiterSound_iff _).mpr ⟨⟨hb, fun hs => ?_, fun hs hc => ?_, fun ho => ?_, fun hd => ?_⟩, ?_⟩
  · have hb' := hidle hs
    subst hb'
    exact hr.cleared hs
  · have hc' : s.arbiter.cause = true := hkeeps.cause ▸ hc
    exact hdoor hc' (hr.raised hs hc')
  · exact hr.ownDoor (hkeeps.ownDoor ▸ ho)
  · exact hr.dwell (hkeeps.dwell ▸ hd)
  · simp only [State.doorHolds, hkeeps.ownDoor, hkeeps.cause]
    exact hcause

/-- A raise in RUNNING. -/
theorem State.ArbiterSound.raise {s : State} (h : s.ArbiterSound) {m : Mode} (hm : m ≠ .auto)
    (hs : s.control.state = .running) : State.ArbiterSound { s with arbiter := s.arbiter.raise m } :=
  h.change (h.ready.sound.raise hm) (s.arbiter.keepsDoor_raise m)
    (fun _ hd => (s.arbiter.marked_raise hm _).mpr (.inr hd)) fun hn => absurd hs hn

/-- The end of a mode other than DOOR. -/
theorem State.ArbiterSound.finish {s : State} (h : s.ArbiterSound) {m : Mode} (hm : m ≠ .door) :
    State.ArbiterSound { s with arbiter := s.arbiter.finish m } :=
  h.change (h.ready.sound.finish fun hd => absurd hd hm) (s.arbiter.keepsDoor_finish m)
    (fun _ hd => (s.arbiter.marked_finish m (Ne.symm hm)).mpr hd)
    fun hn => Arbiter.finish_of_unmarked (h.ready.unmarked hn m)

/-- The end of DOOR as its tail expires: the cause does not hold (R103). -/
theorem State.ArbiterSound.endTail {s : State} (h : s.ArbiterSound) (ht : s.arbiter.tail.isSome) :
    State.ArbiterSound { s with arbiter := { s.arbiter with tail := none }.finish .door } := by
  have hcause := (h.ready.sound.loose.tailed ht).1
  have hrunning : s.control.state = .running := by
    by_contra hn
    obtain ⟨-, -, -, -, htail⟩ := h.ready.cleared hn
    simp [htail] at ht
  have hnone : State.ArbiterSound { s with arbiter := { s.arbiter with tail := none } } := by
    obtain ⟨⟨h1, h2, h3, h4, h5⟩, h6⟩ := s.arbiterSound_iff.mp h
    obtain ⟨hl, htaken⟩ := s.arbiter.sound_iff.mp h1
    refine (State.arbiterSound_iff _).mpr ⟨⟨(Arbiter.sound_iff _).mpr ⟨⟨hl.depth, hl.levels, hl.bottom, hl.last, hl.apart,
      hl.inForce, hl.timed, hl.lengths, hl.dwell, ?_, ?_⟩, htaken⟩, fun hn => absurd hrunning hn, h3, h4, h5⟩, h6⟩
    · rintro left ⟨⟩
    · intro hs; cases hs
  refine hnone.change (hnone.ready.sound.finish fun _ => rfl) (Arbiter.keepsDoor_finish _ _) (fun hc _ => ?_)
    fun hn => absurd hrunning hn
  rw [show ({ s.arbiter with tail := none } : Arbiter).cause = false from hcause] at hc
  cases hc

/-! ## The DOOR cause judged -/

/-- A DOOR cause that begins to hold raises DOOR in RUNNING (R102, R104). -/
theorem Arbiter.judgeCause_begins {a : Arbiter} (hc : a.cause = false) (running : Bool) :
    a.judgeCause true running =
      if running then { a with cause := true, tail := none }.raise .door else { a with cause := true } := by
  simp [Arbiter.judgeCause, hc]

/-- A DOOR cause that ceases to hold starts the tail where DOOR is pending or active (R103). -/
theorem Arbiter.judgeCause_ends {a : Arbiter} (hc : a.cause = true) (running : Bool) :
    a.judgeCause false running =
      { a with cause := false, tail := if a.pending.door || a.active.door then some Config.doorTail else a.tail } := by
  simp only [Arbiter.judgeCause, hc]
  split_ifs <;> rfl

/-- A DOOR cause that stands changes nothing. -/
theorem Arbiter.judgeCause_same {a : Arbiter} {holds : Bool} (hc : a.cause = holds) (running : Bool) :
    a.judgeCause holds running = a := by
  subst hc
  cases hc : a.cause <;> simp [Arbiter.judgeCause, hc]

/-- The cause and the tail written, with the marks that the tail needs, keep the arbiter's own law. -/
theorem Arbiter.Sound.setCause {a : Arbiter} (h : a.Sound) {cause : Bool} {tail : Timer} (ht : tail.within 20000)
    (hm : tail.isSome → cause = false ∧ (a.pending.door = true ∨ a.active.door = true)) :
    Arbiter.Sound { a with cause := cause, tail := tail } := by
  obtain ⟨hl, htaken⟩ := a.sound_iff.mp h
  exact (Arbiter.sound_iff _).mpr ⟨⟨hl.depth, hl.levels, hl.bottom, hl.last, hl.apart, hl.inForce, hl.timed, hl.lengths,
    hl.dwell, ht, hm⟩, htaken⟩

/-- A DOOR cause judged makes the arbiter sound in its station: it holds where its conditions hold, and in RUNNING raises
DOOR (R102, R103). -/
theorem State.ArbiterReady.judge {s : State} (h : s.ArbiterReady) :
    State.ArbiterSound { s with arbiter := s.arbiter.judgeCause s.doorHolds s.isRunning } := by
  have hholds : ∀ b : Arbiter, b.ownDoor = s.arbiter.ownDoor → State.doorHolds { s with arbiter := b } = s.doorHolds :=
    fun b hb => by simp only [State.doorHolds, hb]; rfl
  rw [State.arbiterSound_iff]
  by_cases hc : s.arbiter.cause = s.doorHolds
  · rw [Arbiter.judgeCause_same hc]
    exact ⟨h, hc⟩
  cases hh : s.doorHolds with
  | true =>
    have hc : s.arbiter.cause = false := by simpa [hh] using hc
    rw [Arbiter.judgeCause_begins hc]
    by_cases hrun : s.control.state = .running
    · have hsound : Arbiter.Sound { s.arbiter with cause := true, tail := none } :=
        h.sound.setCause (by rintro left ⟨⟩) fun ht => by cases ht
      have hkeeps := Arbiter.keepsDoor_raise .door { s.arbiter with cause := true, tail := none }
      rw [if_pos (by simpa [State.isRunning] using hrun)]
      refine ⟨⟨hsound.raise (by decide), fun hn => absurd hrun hn, fun _ _ => ?_, fun ho => ?_, fun hd => ?_⟩, ?_⟩
      · exact (Arbiter.marked_raise _ (m := .door) (by decide) .door).mpr (.inl rfl)
      · exact h.ownDoor (hkeeps.ownDoor ▸ ho)
      · exact h.dwell (hkeeps.dwell ▸ hd)
      · rw [hholds _ hkeeps.ownDoor, hh]
        exact hkeeps.cause
    · obtain ⟨-, -, -, -, hnotail⟩ := h.cleared hrun
      rw [if_neg (by simpa [State.isRunning] using hrun)]
      refine ⟨⟨h.sound.setCause (by rw [hnotail]; rintro left ⟨⟩) fun ht => ?_, h.cleared, fun hr => absurd hr hrun,
        h.ownDoor, h.dwell⟩, ?_⟩
      · rw [hnotail] at ht
        cases ht
      · exact ((hholds _ rfl).trans hh).symm
  | false =>
    have hc : s.arbiter.cause = true := by simpa [hh] using hc
    have hmarked : (s.arbiter.pending.door || s.arbiter.active.door) = true →
        s.arbiter.pending.door = true ∨ s.arbiter.active.door = true := by simp
    rw [Arbiter.judgeCause_ends hc]
    refine ⟨⟨h.sound.setCause ?_ fun ht => ⟨rfl, ?_⟩, fun hn => ?_, fun _ hc => (by cases hc), h.ownDoor, h.dwell⟩, ?_⟩
    · split_ifs
      · rintro left ⟨⟩
        exact le_refl _
      · exact h.sound.loose.tail
    · split_ifs at ht with hm
      · exact hmarked hm
      · exact (h.sound.loose.tailed ht).2
    · obtain ⟨h1, h2, h3, h4, h5⟩ := h.cleared hn
      exact ⟨h1, h2, h3, h4, by rw [if_neg (fun hm => h.unmarked hn .door (hmarked hm))]; exact h5⟩
    · exact ((hholds _ rfl).trans hh).symm

/-! ## The panel's modes and the entries -/

theorem panelRaises_ne {p : PanelMode} {m : Mode} (h : panelRaises p = some m) : m ≠ .auto ∧ m ≠ .door := by
  cases p <;> simp only [panelRaises, Option.some.injEq, reduceCtorEq] at h <;> subst h <;> decide

/-- A change of the panel's mode: the old one ends, and in RUNNING the new one is raised (R99). -/
theorem State.ArbiterSound.panelChange {s : State} (h : s.ArbiterSound) (old new : PanelMode) :
    State.ArbiterSound { s with arbiter := s.arbiter.panelChange old new s.isRunning } := by
  have hended : ∀ b, b = (match panelRaises old with | some m => s.arbiter.finish m | none => s.arbiter) →
      State.ArbiterSound { s with arbiter := b } := by
    rintro b rfl
    split
    · next m hm => exact h.finish (panelRaises_ne hm).2
    · exact h
  unfold Arbiter.panelChange
  dsimp only
  split
  · next m hm =>
    split_ifs with hr
    · simp only [State.isRunning, beq_iff_eq] at hr
      exact (hended _ rfl).raise (panelRaises_ne hm).1 hr
    · exact hended _ rfl
  · exact hended _ rfl

/-- An arbiter cleared is in AUTO, with no mode pending or active. -/
theorem Arbiter.cleared_sound {a : Arbiter} (h : a.dwell.within 1000) : a.cleared.Sound := by
  obtain ⟨hl, htaken⟩ := Arbiter.initial.sound_iff.mp (by decide)
  exact (Arbiter.sound_iff _).mpr ⟨⟨hl.depth, hl.levels, hl.bottom, hl.last, hl.apart, hl.inForce, hl.timed, hl.lengths, h,
    hl.tail, fun ht => by cases ht⟩, htaken⟩

/-- Clearing the arbiter keeps the door's conditions and its cause (R121, R122). -/
theorem State.ArbiterSound.cleared {s : State} (h : s.ArbiterSound) :
    s.arbiter.cleared.Sound ∧ s.arbiter.cleared.cause = s.doorHolds
    ∧ (s.arbiter.cleared.ownDoor = true → s.cfg.doorZone = true ∧ s.pins.doorOpen = true)
    ∧ (s.arbiter.cleared.dwell.isSome → s.cfg.doorZone = true ∧ s.pins.doorOpen = true) := by
  obtain ⟨hr, hcause⟩ := s.arbiterSound_iff.mp h
  exact ⟨Arbiter.cleared_sound hr.sound.loose.dwell, hcause, hr.ownDoor, hr.dwell⟩

/-- The raises at an entry to RUNNING: the panel's mode, and DOOR where its cause holds (R104). -/
theorem Arbiter.Sound.raiseAtEntry {a : Arbiter} (h : a.Sound) (panel : PanelMode) :
    (a.raiseAtEntry panel).Sound ∧ a.KeepsDoor (a.raiseAtEntry panel)
    ∧ (a.cause = true → (a.raiseAtEntry panel).Marked .door) := by
  have hraised : ∀ b, b = (match panelRaises panel with | some m => a.raise m | none => a) →
      b.Sound ∧ a.KeepsDoor b := by
    rintro b rfl
    split
    · next m hm => exact ⟨h.raise (panelRaises_ne hm).1, a.keepsDoor_raise m⟩
    · exact ⟨h, .refl a⟩
  obtain ⟨hs, hk⟩ := hraised _ rfl
  unfold Arbiter.raiseAtEntry
  dsimp only
  split_ifs with hc
  · exact ⟨hs.raise (by decide), hk.trans (Arbiter.keepsDoor_raise _ _),
      fun _ => (Arbiter.marked_raise _ (m := .door) (by decide) _).mpr (.inl rfl)⟩
  · exact ⟨hs, hk, fun h => absurd h hc⟩

end Sys2Proof.Machine
end

section
/-! O14 and O15 (R42, R82 to R91): shares in proportion, allowances within headroom and budget; and that a recomputation
leaves the share unit sound. -/

namespace Sys2Proof.Machine

/-! ## Shares in proportion -/

/-- A share is the floor of the budget's part in proportion (R84, R85). -/
theorem shareOf_spec {budget weight demand : Nat} (rest : Nat) (hd : 0 < demand) (hw : 0 < weight) :
    let sum := weight * demand + rest
    let share := shareOf budget weight demand sum
    share * sum ≤ budget * (weight * demand) ∧ budget * (weight * demand) < (share + 1) * sum ∧ share ≤ budget := by
  intro sum share
  have hsum : 0 < sum := Nat.add_pos_left (Nat.mul_pos hw hd) rest
  have hshare : share = budget * (weight * demand) / sum := if_neg (Nat.ne_of_gt hd)
  rw [hshare]
  refine ⟨Nat.div_mul_le_self _ _, ?_, ?_⟩
  · rw [Nat.mul_comm _ sum]
    exact Nat.lt_mul_div_succ _ hsum
  · exact Nat.div_le_of_le_mul (by
      rw [Nat.mul_comm sum]
      exact Nat.mul_le_mul_left budget (Nat.le_add_right _ _))

theorem shareOf_zero (budget weight sum : Nat) : shareOf budget weight 0 sum = 0 := rfl

theorem ownWeight_eq (governing : Mode) : ownWeight governing = if governing = .door then 2 else 1 := by
  cases governing <;> rfl

theorem ownWeight_pos (governing : Mode) : 0 < ownWeight governing := by
  rw [ownWeight_eq]; split_ifs <;> decide

/-- A share never exceeds its budget. -/
theorem shareOf_le (budget demand rest : Nat) (governing : Mode) :
    shareOf budget (ownWeight governing) demand (ownWeight governing * demand + rest) ≤ budget := by
  rcases Nat.eq_zero_or_pos demand with rfl | hd
  · exact Nat.zero_le _
  · exact (shareOf_spec rest hd (ownWeight_pos governing)).2.2

/-- The term of a number in a weighted sum: its entry's, where that is not LOST, or else the reserve (R42). -/
theorem shareItem_term {cfg : Settings} {table : List Entry} (n : Nat) {ofItem : ShareItem → Nat} {ofEntry : Entry → Nat}
    {reserve : Nat} (hreserve : (reserveItem cfg).weight * ofItem (reserveItem cfg) = reserve)
    (hentry : ∀ e : Entry, (if e.priority then 2 else 1) * ofEntry e
      = (if e.priority then 2 else 1) * ofItem
          { demandEl := e.dEl, demandC := e.dC, weight := if e.priority then 2 else 1, claimEl := e.cEl, claimC := e.cC }) :
    (shareItem cfg table n).weight * ofItem (shareItem cfg table n)
      = (((entryFor n table).filter (·.state ≠ .lost)).map fun e => (if e.priority = true then 2 else 1) * ofEntry e).getD
          reserve := by
  unfold shareItem
  cases hfound : entryFor n table with
  | none => simpa using hreserve
  | some e => cases hstate : e.state <;> simp [hstate, hreserve, hentry, Option.filter]

/-- Settles O15: each number's term by `shareItem_term`, and the shares by `shareOf_spec`. -/
theorem sharesInProportion : Obligations.SharesInProportion := by
  unfold Obligations.SharesInProportion
  intro x r g others counted weight termEl termC
  have hg : ownWeight x.governing = g := ownWeight_eq x.governing
  have hEl : (shareItems x.cfg x.own x.peers.table).map (fun i => i.weight * i.demandEl) = others.map termEl := by
    rw [shareItems, List.map_map]
    refine List.map_congr_left fun n _ => ?_
    exact shareItem_term n (by simp [reserveItem]) fun e => rfl
  have hC : (shareItems x.cfg x.own x.peers.table).map (fun i => i.weight * i.demandC) = others.map termC := by
    rw [shareItems, List.map_map]
    refine List.map_congr_left fun n _ => ?_
    exact shareItem_term n (by simp [reserveItem]) fun e => rfl
  have hsumEl : r.weightedEl = g * x.demandEl + (others.map termEl).sum := by rw [← hEl, ← hg]; rfl
  have hsumC : r.weightedC = g * x.demandC + (others.map termC).sum := by rw [← hC, ← hg]; rfl
  have hshareEl : r.shareEl = shareOf r.budgetEl g x.demandEl r.weightedEl := by rw [← hg]; rfl
  have hshareC : r.shareC = shareOf r.budgetC g x.demandC r.weightedC := by rw [← hg]; rfl
  have hpos : 0 < g := hg ▸ ownWeight_pos _
  refine ⟨hsumEl, hsumC, fun hd => ?_, fun hd => ?_, fun hd => ?_, fun hd => ?_⟩
  · rw [hshareEl, hd, shareOf_zero]
  · rw [hshareC, hd, shareOf_zero]
  · rw [hshareEl, hsumEl]
    exact shareOf_spec _ hd hpos
  · rw [hshareC, hsumC]
    exact shareOf_spec _ hd hpos

/-! ## The allowances -/

theorem electricAllowance_of_positive {cfg : Settings} {wanted demand share head cap : Nat} {hold : Timer}
    (hps : 0 < cfg.stagePower) (hd : demand = wanted * cfg.stagePower) :
    electricAllowance cfg wanted demand share head hold cap
      = capped hold cap
          (min wanted (min ((share + cfg.stagePower / 2) / cfg.stagePower) (head / cfg.stagePower))) := by
  rcases Nat.eq_zero_or_pos wanted with rfl | hw
  · have : demand = 0 := by simpa using hd
    simp [electricAllowance, this, capped]
  · have : demand ≠ 0 := by rw [hd]; exact Nat.ne_of_gt (Nat.mul_pos hw hps)
    rw [electricAllowance, if_neg (by simp [this, Nat.ne_of_gt hps])]

theorem capped_le (hold : Timer) (cap n : Nat) : capped hold cap n ≤ n := by
  unfold capped; split_ifs
  · exact Nat.min_le_right _ _
  · exact le_refl _

theorem electricAllowance_le (cfg : Settings) (wanted demand share head : Nat) (hold : Timer) (cap : Nat) :
    electricAllowance cfg wanted demand share head hold cap ≤ wanted
    ∧ electricAllowance cfg wanted demand share head hold cap * cfg.stagePower ≤ head
    ∧ (hold.isSome → electricAllowance cfg wanted demand share head hold cap ≤ cap) := by
  unfold electricAllowance
  split_ifs with h
  · exact ⟨Nat.zero_le _, by simp, fun _ => Nat.zero_le _⟩
  · have hle := capped_le hold cap
      (min wanted (min ((share + cfg.stagePower / 2) / cfg.stagePower) (head / cfg.stagePower)))
    refine ⟨hle.trans (Nat.min_le_left _ _), ?_, fun hh => ?_⟩
    · have hdiv := hle.trans ((Nat.min_le_right _ _).trans (Nat.min_le_right _ _))
      exact (Nat.mul_le_mul_right _ hdiv).trans (Nat.div_mul_le_self _ _)
    · rw [capped, if_pos hh]
      exact Nat.min_le_left _ _

theorem coolingAllowance_eq (state : FrostState) (demand share head : Nat) :
    coolingAllowance state demand share head = if state = .frost then 0 else min share (min head demand) := by
  cases state with
  | frost => rfl
  | clear =>
    rw [if_neg (by decide)]
    by_cases h : demand = 0
    · simp [coolingAllowance, h]
    · simp [coolingAllowance, h]

theorem coolingAllowance_le (state : FrostState) (demand share head : Nat) :
    coolingAllowance state demand share head ≤ demand ∧ coolingAllowance state demand share head ≤ head := by
  rw [coolingAllowance_eq]
  split_ifs <;> omega

theorem headroom_le (budget : Nat) (claims : List Nat) : headroom budget claims ≤ budget := Nat.sub_le _ _

section
variable (x : ShareInputs)

/-- What every allowance record satisfies, whatever it was formed from (R82, R85, R86, R88 to R91). -/
theorem allowance_bounds :
    (allowance x).nEl ≤ x.wanted ∧ (allowance x).nEl * x.cfg.stagePower ≤ (allowance x).budgetEl
    ∧ (allowance x).aC ≤ x.demandC ∧ (allowance x).aC ≤ (allowance x).budgetC
    ∧ (allowance x).shareEl ≤ (allowance x).budgetEl ∧ (allowance x).shareC ≤ (allowance x).budgetC
    ∧ (allowance x).headEl ≤ (allowance x).budgetEl ∧ (allowance x).headC ≤ (allowance x).budgetC
    ∧ ((allowance x).heatLimited = true ↔ 0 < x.demandEl ∧ (allowance x).nEl < x.wanted)
    ∧ ((allowance x).coolLimited = true ↔ (allowance x).aC < x.demandC)
    ∧ (x.frost = .frost → (allowance x).aC = 0) ∧ (x.hold.isSome → (allowance x).nEl ≤ x.cap) := by
  have hn := electricAllowance_le x.cfg x.wanted x.demandEl (allowance x).shareEl (allowance x).headEl x.hold x.cap
  have ha := coolingAllowance_le x.frost x.demandC (allowance x).shareC (allowance x).headC
  have hheadEl : (allowance x).headEl ≤ (allowance x).budgetEl := headroom_le _ _
  have hheadC : (allowance x).headC ≤ (allowance x).budgetC := headroom_le _ _
  refine ⟨hn.1, hn.2.1.trans hheadEl, ha.1, ha.2.trans hheadC, shareOf_le _ _ _ _, shareOf_le _ _ _ _, hheadEl, hheadC,
    ?_, ?_, fun hf => ?_, hn.2.2⟩
  · simp [allowance]
  · simp [allowance]
  · simp [allowance, coolingAllowance_eq, hf]

/-- The budgets in use: the defaults of a blind station while DUPLICATE, or else the sources' offers (R82). -/
theorem allowance_budgets :
    (x.peers.duplicate.isSome →
      (allowance x).budgetEl = x.cfg.blindBudget ∧ (allowance x).budgetC = x.cfg.blindCooling)
    ∧ (x.peers.duplicate = none →
      (allowance x).budgetEl
          = (if x.peers.budget.silence.isSome then x.peers.budget.heard.getD 0 else x.cfg.blindBudget)
      ∧ (allowance x).budgetC
          = (if x.peers.plant.silence = none then x.cfg.blindCooling
             else if x.peers.plant.fault = true then 0 else x.peers.plant.capacity.getD 0)) := by
  refine ⟨fun hd => ⟨if_pos hd, if_pos hd⟩, fun hd => ⟨?_, ?_⟩⟩
  · exact if_neg (by simp [hd])
  · cases hs : x.peers.plant.silence <;> simp [allowance, coolingInUse, hd, PlantRecord.offer, fresh, hs]

end

/-- Settles O14, from `allowance_bounds` and `allowance_budgets`. -/
theorem allowanceWithinBudgets : Obligations.AllowanceWithinBudgets := by
  unfold Obligations.AllowanceWithinBudgets
  intro x hdemand r rounded
  obtain ⟨-, hbudgetEl, hdemandC, hbudgetC, -, -, -, -, hheat, hcool, hfrost, -⟩ := allowance_bounds x
  obtain ⟨hblind, hheard⟩ := allowance_budgets x
  have hn : r.nEl = electricAllowance x.cfg x.wanted x.demandEl r.shareEl r.headEl x.hold x.cap := rfl
  have ha : r.aC = coolingAllowance x.frost x.demandC r.shareC r.headC := rfl
  refine ⟨hblind, hheard, fun hps => ?_, fun hps hh => ?_, fun hps hh => ?_, fun hf => ?_, hfrost, hbudgetEl,
    le_min hdemandC hbudgetC, hheat, hcool, rfl, rfl⟩
  · rw [hn, electricAllowance, if_pos (.inr hps)]
  · rw [hn, electricAllowance_of_positive hps hdemand, hh]
    rfl
  · rw [hn, electricAllowance_of_positive hps hdemand, capped, if_pos hh]
  · rw [ha, hf]
    simp [coolingAllowance_eq]

/-! ## The share unit after a recomputation -/

/-- The overload hold and its cap (R91, R92). -/
structure State.HoldSound (s : State) : Prop where
  stopped : s.share.hold = none → s.share.cap = 0
  inForce : s.share.hold.isSome → s.control.state = .running ∨ s.control.state = .test
  length : s.share.hold.within (2000 * s.own)
  cap : s.share.cap ≤ 3

theorem State.ShareSound.hold {s : State} (h : s.ShareSound) : s.HoldSound := by
  obtain ⟨-, -, -, -, -, -, -, -, -, -, -, -, -, h1, -, h2, h3, h4⟩ := h
  exact ⟨h1, h2, h3, h4⟩

theorem budgetInUse_le {cfg : Settings} (hcfg : cfg.InRange) {s : State} (hp : s.PeersSound) :
    budgetInUse cfg s.peers ≤ 60000 := by
  obtain ⟨-, -, -, -, -, -, -, -, -, -, -, -, -, -, -, -, -, -, -, hblind, -⟩ := hcfg
  obtain ⟨-, -, -, -, -, -, hheard, -⟩ := hp
  unfold budgetInUse BudgetRecord.offer
  split_ifs
  · exact hblind
  · cases hh : s.peers.budget.heard with
    | none => exact Nat.zero_le _
    | some w => exact hheard w hh
  · exact hblind

theorem coolingInUse_le {cfg : Settings} (hcfg : cfg.InRange) {s : State} (hp : s.PeersSound) :
    coolingInUse cfg s.peers ≤ 4000 := by
  obtain ⟨-, -, -, -, -, -, -, -, -, -, -, -, -, -, -, -, -, -, -, -, hblind, -⟩ := hcfg
  obtain ⟨-, -, -, -, -, -, -, -, -, hheard, -⟩ := hp
  unfold coolingInUse PlantRecord.offer
  split_ifs
  · exact hblind
  · exact Nat.zero_le _
  · cases hh : s.peers.plant.capacity with
    | none => exact Nat.zero_le _
    | some c => exact hheard c hh
  · exact hblind

/-- A recomputation leaves the share unit sound. -/
theorem State.reckon_shareSound {s : State} (hcfg : s.cfg.InRange) (hp : s.PeersSound) (hh : s.HoldSound) :
    s.reckon.ShareSound := by
  obtain ⟨h1, h2, h3, h4, h5, h6, h7, h8, h9, h10, h11, h12⟩ := allowance_bounds s.shareInputs
  exact ⟨h1, h2, h3, h4, h5, h6, h7, h8, budgetInUse_le hcfg hp, coolingInUse_le hcfg hp, h9, h10, h11, hh.stopped, h12,
    hh.inForce, hh.length, hh.cap⟩

end Sys2Proof.Machine
end

section
/-! The output stage: the sequencer's settling by cases, what a forced removal leaves, and that targets, ceiling and
forced removals handed on leave the output stage sound (R123 to R132). `State.OutputReady` is the output stage apart from
the targets, which the operations of this part take. -/

namespace Sys2Proof.Machine

/-! ## The settling by cases -/

theorem FanProof.isProven_iff (p : FanProof) : p.isProven = true ↔ p = .proven := by
  cases p <;> simp [FanProof.isProven]

theorem Output.mayStepUp_iff (o : Output) :
    o.mayStepUp = true ↔ o.upDelay = none ∧ (0 < o.stagesOn ∨ o.proof = .proven) := by
  simp [Output.mayStepUp, FanProof.isProven_iff]

section
variable {own : Nat} {o : Output}

/-- While the step-down delay runs nothing is switched. -/
theorem Output.settle_of_stepping (h : o.downDelay.isSome) : o.settle own = { o with seq := .steppingDown } := by
  simp [Output.settle, h]

/-- A stage above the target is switched off. -/
theorem Output.settle_of_above (h : o.downDelay = none) (ht : o.stageTarget < o.stagesOn) :
    o.settle own = { o.stagesDownTo (o.stagesOn - 1) with downDelay := some Config.stepDown, seq := .steppingDown } := by
  simp [Output.settle, h, ht]

/-- A stage below the target is switched on where it may be. -/
theorem Output.settle_of_allowed (h : o.downDelay = none) (ht : o.stagesOn < o.stageTarget) (hm : o.mayStepUp = true) :
    o.settle own = { o.stageOn own with seq := (o.stageOn own).resting } := by
  simp [Output.settle, h, ht, hm, Nat.le_of_lt ht]

/-- Otherwise the sequencer rests. -/
theorem Output.settle_of_resting (h : o.downDelay = none) (ht : o.stagesOn ≤ o.stageTarget)
    (hm : o.stagesOn < o.stageTarget → o.mayStepUp = false) : o.settle own = { o with seq := o.resting } := by
  by_cases hlt : o.stagesOn < o.stageTarget
  · simp [Output.settle, h, hm hlt, Nat.not_lt.mpr ht]
  · simp [Output.settle, h, hlt, Nat.not_lt.mpr ht]

/-- What a settling can do, said once: one of the four cases, each with its outcome. -/
theorem Output.settle_cases (own : Nat) (o : Output) :
    (o.downDelay.isSome ∧ o.settle own = { o with seq := .steppingDown })
    ∨ (o.downDelay = none ∧ o.stageTarget < o.stagesOn ∧ o.settle own =
        { o.stagesDownTo (o.stagesOn - 1) with downDelay := some Config.stepDown, seq := .steppingDown })
    ∨ (o.downDelay = none ∧ o.stagesOn < o.stageTarget ∧ o.mayStepUp = true
        ∧ o.settle own = { o.stageOn own with seq := (o.stageOn own).resting })
    ∨ (o.downDelay = none ∧ o.stagesOn ≤ o.stageTarget ∧ (o.stagesOn < o.stageTarget → o.mayStepUp = false)
        ∧ o.settle own = { o with seq := o.resting }) := by
  by_cases hd : o.downDelay = none
  · by_cases ha : o.stageTarget < o.stagesOn
    · exact .inr (.inl ⟨hd, ha, Output.settle_of_above hd ha⟩)
    · by_cases hm : o.stagesOn < o.stageTarget ∧ o.mayStepUp = true
      · exact .inr (.inr (.inl ⟨hd, hm.1, hm.2, Output.settle_of_allowed hd hm.1 hm.2⟩))
      · have hno : o.stagesOn < o.stageTarget → o.mayStepUp = false := fun hlt =>
          Bool.eq_false_iff.mpr fun h => hm ⟨hlt, h⟩
        exact .inr (.inr (.inr ⟨hd, Nat.not_lt.mp ha, hno, Output.settle_of_resting hd (Nat.not_lt.mp ha) hno⟩))
  · have hsome := Option.isSome_iff_ne_none.mpr hd
    exact .inl ⟨hsome, Output.settle_of_stepping hsome⟩

end

/-- However it stood, a sequencer that settles is in the state that its stages and delays give (R126). -/
theorem Output.settle_sequencer (own : Nat) (o : Output) : (o.settle own).SequencerSound := by
  obtain ⟨hd, h⟩ | ⟨hd, ht, h⟩ | ⟨hd, ht, hm, h⟩ | ⟨hd, ht, hm, h⟩ := o.settle_cases own <;> rw [h]
  · simp [Output.SequencerSound, hd]
  · simp [Output.SequencerSound]
  · by_cases hreached : o.stageTarget ≤ o.stagesOn + 1
    · simp [Output.SequencerSound, Output.resting, Output.stageOn, hreached, hd]
      omega
    · simp [Output.SequencerSound, Output.resting, Output.stageOn, hreached, hd]
      omega
  · by_cases hreached : o.stageTarget ≤ o.stagesOn
    · simp [Output.SequencerSound, Output.resting, hreached, hd]
      omega
    · have hno := Bool.eq_false_iff.mp (hm (Nat.not_le.mp hreached))
      rw [ne_eq, Output.mayStepUp_iff] at hno
      by_cases hz : o.stagesOn = 0
      · have hrest : o.resting = .waiting := by simp [Output.resting, hz]; omega
        simp only [Output.SequencerSound, hrest, hd]
        refine ⟨by simp, fun _ => ⟨hz, by omega, ?_⟩, by simp, by simp⟩
        cases hu : o.upDelay with
        | some left => exact .inl rfl
        | none =>
          refine .inr (Bool.eq_false_iff.mpr fun hp => hno ⟨hu, .inr ?_⟩)
          exact (FanProof.isProven_iff _).mp hp
      · have hrest : o.resting = .steppingUp := by simp [Output.resting, hz, hreached]
        simp only [Output.SequencerSound, hrest, hd]
        refine ⟨by simp, by simp, fun _ => ⟨by omega, by omega, ?_⟩, by simp⟩
        cases hu : o.upDelay with
        | some left => rfl
        | none => exact absurd ⟨hu, .inl (by omega)⟩ hno

/-! ## Stages, delays and proof under a ceiling -/

/-- The stages with their delays, fan proof and after-run, under a ceiling (R124, R125, R130, R138). -/
structure Output.Steady (cfg : Settings) (own ceiling : Nat) (o : Output) : Prop where
  proof : o.ProofSound cfg
  under : o.stagesOn ≤ ceiling
  driven : 0 < o.stagesOn → o.proof = .proven ∧ o.afterRun = none
  upDelay : o.upDelay.within (3000 + 250 * own)
  downDelay : o.downDelay.within 500
  afterRun : o.afterRun.within 30000

/-- Stages taken off leave the rest in order: the after-run starts where none is left (R138). -/
theorem Output.Steady.stagesDownTo {cfg : Settings} {own ceiling c n : Nat} {o : Output} (h : o.Steady cfg own c)
    (hn : n ≤ ceiling) (hle : n ≤ o.stagesOn) : (o.stagesDownTo n).Steady cfg own ceiling := by
  unfold Output.stagesDownTo
  refine ⟨h.proof, hn, fun hpos => ?_, h.upDelay, h.downDelay, ?_⟩
  · have hne : n ≠ 0 := Nat.ne_of_gt hpos
    obtain ⟨hp, ha⟩ := h.driven (Nat.lt_of_lt_of_le hpos hle)
    exact ⟨hp, by simp [hne, ha]⟩
  · dsimp only
    split_ifs
    · rintro left ⟨⟩
      exact le_refl _
    · exact h.afterRun

/-- Settling keeps the stages under the ceiling that the target keeps to, and driven by a proven fan (R124, R130). -/
theorem Output.Steady.settle {cfg : Settings} {own ceiling : Nat} {o : Output} (h : o.Steady cfg own ceiling)
    (ht : o.stageTarget ≤ ceiling) : (o.settle own).Steady cfg own ceiling := by
  obtain ⟨-, he⟩ | ⟨-, hlt, he⟩ | ⟨-, hlt, hm, he⟩ | ⟨-, -, -, he⟩ := o.settle_cases own <;> rw [he]
  · exact ⟨h.proof, h.under, h.driven, h.upDelay, h.downDelay, h.afterRun⟩
  · have hdown := h.stagesDownTo (ceiling := ceiling) (n := o.stagesOn - 1) ((Nat.sub_le _ _).trans h.under)
      (Nat.sub_le _ _)
    exact ⟨hdown.proof, hdown.under, hdown.driven, hdown.upDelay, by rintro left ⟨⟩; exact le_refl _, hdown.afterRun⟩
  · obtain ⟨-, hproven⟩ := o.mayStepUp_iff.mp hm
    refine ⟨h.proof, Nat.le_trans hlt ht, fun _ => ⟨?_, rfl⟩, ?_, h.downDelay, ?_⟩
    · exact hproven.elim (fun hpos => (h.driven hpos).1) id
    · rintro left ⟨⟩
      exact le_refl _
    · rintro left ⟨⟩
  · exact ⟨h.proof, h.under, h.driven, h.upDelay, h.downDelay, h.afterRun⟩

/-! ## The output stage apart from its targets -/

/-- Test settings in range (R146). -/
abbrev TestSettings.InRange (stages : Nat) (t : TestSettings) : Prop :=
  t.fan ≤ 1000 ∧ t.evap ≤ 1000 ∧ t.coolant ≤ 1000 ∧ t.damper ≤ 1000 ∧ t.stages ≤ stages

/-- Flow targets in range (R123). -/
abbrev FlowTargets.InRange (t : FlowTargets) : Prop :=
  t.fan ≤ 1000 ∧ t.evap ≤ 1000 ∧ t.coolant ≤ 1000 ∧ t.damper ≤ 1000

/-- The output stage, but for the targets (R124 to R126, R130, R137, R138, R140, R141, R144, R146). -/
structure State.OutputReady (s : State) : Prop where
  sequencer : s.output.SequencerSound
  steady : s.output.Steady s.cfg s.own s.interlock.ceiling
  positions : s.output.fanPos ≤ 1000 ∧ s.output.evapPos ≤ 1000 ∧ s.output.coolantPos ≤ 1000 ∧ s.output.damperPos ≤ 1000
  settings : s.output.settings.InRange s.cfg.stages
  fanTick : s.output.fanTickIn.isSome ↔ s.control.reading = false
  fanTickIn : s.output.fanTickIn.within 100
  damperTick : s.output.damperTickIn.isSome ↔ s.control.reading = false
  damperTickIn : s.output.damperTickIn.within 1000
  frost : s.interlock.frost = .frost → s.output.evapPos = 0
  shut : s.control.state = .starting ∨ s.control.state = .standby → s.output.evapPos = 0 ∧ s.output.coolantPos = 0

theorem State.stageTarget_le (s : State) : s.stageTarget ≤ s.interlock.ceiling := by
  unfold State.stageTarget
  split
  · exact Nat.min_le_right _ _
  · exact (capped_le _ _ _).trans (Nat.min_le_right _ _)
  · exact Nat.zero_le _
  · exact Nat.zero_le _

/-- The output stage is sound where it is ready and holds the targets of its sources, which lie in range. -/
theorem State.outputSound_iff (s : State) :
    s.OutputSound ↔ s.OutputReady ∧ s.TargetsTaken ∧ s.flowTargets.InRange := by
  constructor
  · rintro ⟨h1, h2, h3, h4, h5, h6, h7, h8, h9, h10, h11, h12, h13, h14, h15, h16⟩
    simp only [Output.inRange, decide_eq_true_eq] at h10
    obtain ⟨hfan, hevap, hcoolant, hdamper, hp1, hp2, hp3, hp4, hset⟩ := h10
    obtain ⟨ht1, ht2, ht3, ht4, ht5⟩ := h1
    exact ⟨⟨h2, ⟨h3, h4, h6, h7, h8, h9⟩, ⟨hp1, hp2, hp3, hp4⟩, hset, h11, h12, h13, h14, h15, h16⟩,
      ⟨ht1, ht2, ht3, ht4, ht5⟩, ht2 ▸ hfan, ht3 ▸ hevap, ht4 ▸ hcoolant, ht5 ▸ hdamper⟩
  · rintro ⟨h, ht, hflow⟩
    obtain ⟨ht1, ht2, ht3, ht4, ht5⟩ := ht
    obtain ⟨hf1, hf2, hf3, hf4⟩ := hflow
    obtain ⟨hp1, hp2, hp3, hp4⟩ := h.positions
    refine ⟨⟨ht1, ht2, ht3, ht4, ht5⟩, h.sequencer, h.steady.proof, h.steady.under, ht1 ▸ s.stageTarget_le,
      h.steady.driven, h.steady.upDelay, h.steady.downDelay, h.steady.afterRun, ?_, h.fanTick, h.fanTickIn, h.damperTick,
      h.damperTickIn, h.frost, h.shut⟩
    simp only [Output.inRange, decide_eq_true_eq]
    exact ⟨ht2 ▸ hf1, ht3 ▸ hf2, ht4 ▸ hf3, ht5 ▸ hf4, hp1, hp2, hp3, hp4, h.settings⟩

theorem State.OutputSound.ready {s : State} (h : s.OutputSound) : s.OutputReady := (s.outputSound_iff.mp h).1

theorem State.OutputSound.taken {s : State} (h : s.OutputSound) : s.TargetsTaken := (s.outputSound_iff.mp h).2.1

theorem State.OutputSound.flow {s : State} (h : s.OutputSound) : s.flowTargets.InRange := (s.outputSound_iff.mp h).2.2

/-! ## The targets in range -/

theorem modeFan_le {cfg : Settings} (hcfg : cfg.InRange) (governing : Mode) {u : Int} (hl : -1000 ≤ u) (hh : u ≤ 1000) :
    modeFan cfg governing u ≤ 1000 := by
  obtain ⟨-, -, -, -, -, -, -, -, -, -, -, -, -, hfan, -, hvent, -⟩ := hcfg
  have hauto : cfg.fanMin + u.natAbs * (1000 - cfg.fanMin) / 1000 ≤ 1000 := by
    have hu : u.natAbs ≤ 1000 := by omega
    have hmul : u.natAbs * (1000 - cfg.fanMin) ≤ 1000 * (1000 - cfg.fanMin) := Nat.mul_le_mul_right _ hu
    omega
  cases governing with
  | auto | economy => exact hauto
  | vent => exact hvent
  | precond | boost | purge | door => simp [modeFan]

theorem modeDamper_le {cfg : Settings} (hcfg : cfg.InRange) (governing : Mode) : modeDamper cfg governing ≤ 1000 := by
  obtain ⟨-, -, -, -, -, -, -, -, -, -, -, -, -, -, -, -, hfresh, -⟩ := hcfg
  cases governing with
  | auto | economy => exact hfresh
  | vent | precond | boost | purge | door => simp [modeDamper]

theorem evaporatorTarget_le {cfg : Settings} {aC cool : Nat} (ha : aC ≤ cool * cfg.coolRating / 1000) (hc : cool ≤ 1000) :
    evaporatorTarget cfg aC ≤ 1000 := by
  unfold evaporatorTarget
  split_ifs with hz
  · exact Nat.zero_le _
  · refine Nat.div_le_of_le_mul ?_
    have hmul : cool * cfg.coolRating ≤ 1000 * cfg.coolRating := Nat.mul_le_mul_right _ hc
    omega

/-- The flow targets of every station state lie in range (R118, R123). -/
theorem State.flowTargets_inRange {s : State} (hcfg : s.cfg.InRange) (hd : s.DemandSound)
    (ha : s.share.aC ≤ s.demand.record.dC) (hset : s.output.settings.InRange s.cfg.stages) : s.flowTargets.InRange := by
  obtain ⟨-, -, -, -, -, -, -, hu1, hu2, -, -, -, hcool, hcoolant, -, -, hdC⟩ := hd
  unfold State.flowTargets
  split
  · refine ⟨modeFan_le hcfg _ hu1 hu2, evaporatorTarget_le (cool := s.demand.record.cool) (hdC ▸ ha) (by omega),
      hcoolant, modeDamper_le hcfg _⟩
  · exact ⟨hset.1, hset.2.1, hset.2.2.1, hset.2.2.2.1⟩
  · exact ⟨by decide, by decide, by decide, by decide⟩
  · exact ⟨by decide, by decide, by decide, by decide⟩

/-! ## Targets handed to the output stage -/

/-- A change of stages, targets and delays alone. -/
abbrev Output.KeepsPositions (o p : Output) : Prop :=
  p = { p with
    fanPos := o.fanPos, evapPos := o.evapPos, coolantPos := o.coolantPos, damperPos := o.damperPos
    settings := o.settings, fanTickIn := o.fanTickIn, damperTickIn := o.damperTickIn }

theorem Output.keepsPositions_settle (own : Nat) (o : Output) : o.KeepsPositions (o.settle own) := by
  rw [o.settle_frame]

theorem Output.keepsPositions_takeStageTarget (own target : Nat) (o : Output) :
    o.KeepsPositions (o.takeStageTarget own target) := by
  unfold Output.takeStageTarget
  split_ifs
  · rfl
  · exact Output.keepsPositions_settle own { o with stageTarget := target }

/-- A stage target under the ceiling, taken, keeps the stages under it and the sequencer true to them. -/
theorem Output.Steady.takeStageTarget {cfg : Settings} {own ceiling target : Nat} {o : Output}
    (h : o.Steady cfg own ceiling) (hs : o.SequencerSound) (ht : target ≤ ceiling) :
    (o.takeStageTarget own target).Steady cfg own ceiling ∧ (o.takeStageTarget own target).SequencerSound := by
  unfold Output.takeStageTarget
  split_ifs
  · exact ⟨h, hs⟩
  · have hnew : Output.Steady cfg own ceiling { o with stageTarget := target } :=
      ⟨h.proof, h.under, h.driven, h.upDelay, h.downDelay, h.afterRun⟩
    exact ⟨hnew.settle ht, Output.settle_sequencer _ _⟩

/-- A change of stages, targets and delays keeps the output stage ready where it keeps the stages under their ceiling and
the sequencer true to them. -/
theorem State.OutputReady.change {s : State} (h : s.OutputReady) {o : Output} {i : Interlock}
    (hkeeps : s.output.KeepsPositions o) (hseq : o.SequencerSound) (hsteady : o.Steady s.cfg s.own i.ceiling)
    (hfrost : i.frost = s.interlock.frost) : State.OutputReady { s with output := o, interlock := i } := by
  refine ⟨hseq, hsteady, ?_, ?_, ?_, ?_, ?_, ?_, ?_, ?_⟩
  all_goals dsimp only; rw [hkeeps]
  · exact h.positions
  · exact h.settings
  · exact h.fanTick
  · exact h.fanTickIn
  · exact h.damperTick
  · exact h.damperTickIn
  · exact fun hf => h.frost (hfrost ▸ hf)
  · exact h.shut

/-- Taking the targets keeps the output stage ready. -/
theorem State.OutputReady.takeTargets {s : State} (h : s.OutputReady) : s.takeTargets.OutputReady := by
  have hflow : Output.Steady s.cfg s.own s.interlock.ceiling (s.output.takeFlow s.flowTargets) :=
    ⟨h.steady.proof, h.steady.under, h.steady.driven, h.steady.upDelay, h.steady.downDelay, h.steady.afterRun⟩
  obtain ⟨hsteady, hseq⟩ := hflow.takeStageTarget h.sequencer s.stageTarget_le
  refine State.OutputReady.change (i := s.interlock) h ?_ hseq hsteady rfl
  exact Output.keepsPositions_takeStageTarget s.own s.stageTarget (s.output.takeFlow s.flowTargets)

/-- Taking the targets makes the output stage sound. -/
theorem State.OutputReady.takeTargets_sound {s : State} (h : s.OutputReady) (hflow : s.flowTargets.InRange) :
    s.takeTargets.OutputSound :=
  (State.outputSound_iff _).mpr ⟨h.takeTargets, s.takeTargets_taken, by rwa [State.takeTargets_flowTargets]⟩

/-! ## Forced removals -/

/-- Stages taken off at once, with the targets taken as they now stand (R131, R132). -/
def State.shed (n : Nat) (s : State) : State :=
  { s with output := ((s.output.takeFlow s.flowTargets).removeTo n).settleRemoval s.stageTarget }

/-- What a forced removal makes of the output stage, written out (R131, R132). -/
theorem State.shed_output (n : Nat) (s : State) :
    (s.shed n).output = { s.output with
      fanTarget := s.flowTargets.fan, evapTarget := s.flowTargets.evap, coolantTarget := s.flowTargets.coolant
      damperTarget := s.flowTargets.damper, stageTarget := s.stageTarget, stagesOn := n, upDelay := none
      downDelay := if s.stageTarget < n then some 500 else none
      seq := if s.stageTarget < n then .steppingDown else .settled
      afterRun := if n = 0 then some 30000 else s.output.afterRun } := by
  unfold State.shed Output.settleRemoval Output.removeTo Output.stagesDownTo
  dsimp only
  split_ifs <;> rfl

theorem State.shed_flowTargets (n : Nat) (s : State) : (s.shed n).flowTargets = s.flowTargets := by
  unfold State.flowTargets
  rw [s.shed_output n]
  rfl

theorem State.shed_stageTarget (n : Nat) (s : State) : (s.shed n).stageTarget = s.stageTarget := by
  unfold State.stageTarget
  rw [s.shed_output n]
  rfl

theorem State.shed_taken (n : Nat) (s : State) : (s.shed n).TargetsTaken := by
  rw [State.TargetsTaken, s.shed_flowTargets, s.shed_stageTarget, s.shed_output]
  exact ⟨rfl, rfl, rfl, rfl, rfl⟩

/-- A forced removal keeps the output stage sound, the stages that it leaves being under the ceiling and no fewer than the
target (R131, R132). Before it the stages may stand above a ceiling that has come down. -/
theorem State.shed_sound {s : State} {c n : Nat} (h : State.OutputReady { s with interlock := { s.interlock with ceiling := c } })
    (hflow : s.flowTargets.InRange) (hn : n ≤ s.output.stagesOn) (hc : n ≤ s.interlock.ceiling) (ht : s.stageTarget ≤ n) :
    (s.shed n).OutputSound := by
  refine (State.outputSound_iff _).mpr ⟨?_, s.shed_taken n, by rwa [State.shed_flowTargets]⟩
  have hdown : (s.output.stagesDownTo n).Steady s.cfg s.own s.interlock.ceiling := h.steady.stagesDownTo hc hn
  refine State.OutputReady.change (i := s.interlock) h ?_ ?_ ?_ rfl
  · change s.output.KeepsPositions (s.shed n).output
    rw [s.shed_output]
  · change (s.shed n).output.SequencerSound
    rw [s.shed_output]
    by_cases hlt : s.stageTarget < n
    · simp [Output.SequencerSound, hlt]
    · have hn : n = s.stageTarget := by omega
      simp [Output.SequencerSound, hn]
  · change (s.shed n).output.Steady s.cfg s.own s.interlock.ceiling
    rw [s.shed_output]
    refine ⟨hdown.proof, hc, hdown.driven, ?_, ?_, hdown.afterRun⟩
    · rintro left ⟨⟩
    · dsimp only
      split_ifs
      · rintro left ⟨⟩
        exact le_refl _
      · rintro left ⟨⟩

/-! ## The ceiling handed on -/

/-- The station with the effective ceiling formed afresh. -/
def State.ceiled (s : State) : State :=
  { s with interlock := { s.interlock with ceiling := s.interlock.effectiveCeiling } }

/-- What handing the ceiling on can do, said once (R131, R163). -/
theorem State.handCeiling_cases (s : State) :
    (s.interlock.effectiveCeiling = s.interlock.ceiling ∧ s.handCeiling = s)
    ∨ (s.interlock.effectiveCeiling ≠ s.interlock.ceiling ∧ s.interlock.effectiveCeiling < s.output.stagesOn
        ∧ s.handCeiling = s.ceiled.shed s.interlock.effectiveCeiling)
    ∨ (s.interlock.effectiveCeiling ≠ s.interlock.ceiling ∧ s.output.stagesOn ≤ s.interlock.effectiveCeiling
        ∧ s.handCeiling = s.ceiled.takeTargets) := by
  by_cases h : s.interlock.effectiveCeiling = s.interlock.ceiling
  · exact .inl ⟨h, State.handCeiling_same h⟩
  · by_cases hlt : s.interlock.effectiveCeiling < s.output.stagesOn
    · exact .inr (.inl ⟨h, hlt, by simp [State.handCeiling, h, hlt, State.ceiled, State.shed]⟩)
    · exact .inr (.inr ⟨h, Nat.not_lt.mp hlt, by simp [State.handCeiling, h, hlt, State.ceiled]⟩)

/-- Handing the ceiling on forms it afresh and moves the output stage alone. -/
theorem State.handCeiling_frame (s : State) :
    s.handCeiling = { s with
      interlock := { s.interlock with ceiling := s.interlock.effectiveCeiling }, output := s.handCeiling.output } := by
  obtain ⟨h, he⟩ | ⟨-, -, he⟩ | ⟨-, -, he⟩ := s.handCeiling_cases
  · rw [he, h]
  · rw [he]; rfl
  · rw [he]; rfl

/-- The ceiling handed on keeps the output stage sound, which was sound but for the ceiling that has changed. -/
theorem State.handCeiling_sound {s : State} (h : s.OutputSound) (hflow : s.ceiled.flowTargets.InRange) :
    s.handCeiling.OutputSound := by
  obtain ⟨-, he⟩ | ⟨-, hlt, he⟩ | ⟨-, hle, he⟩ := s.handCeiling_cases <;> rw [he]
  · exact h
  · exact State.shed_sound (s := s.ceiled) (c := s.interlock.ceiling) h.ready hflow hlt.le (le_refl _)
      s.ceiled.stageTarget_le
  · have hready : s.ceiled.OutputReady :=
      ⟨h.ready.sequencer, ⟨h.ready.steady.proof, hle, h.ready.steady.driven, h.ready.steady.upDelay,
        h.ready.steady.downDelay, h.ready.steady.afterRun⟩, h.ready.positions, h.ready.settings, h.ready.fanTick,
        h.ready.fanTickIn, h.ready.damperTick, h.ready.damperTickIn, h.ready.frost, h.ready.shut⟩
    exact hready.takeTargets_sound hflow

end Sys2Proof.Machine
end

section
/-! What the shared operations hand on leaves a station fit: a recomputation, a change of the arbiter, an event of a peer
entry, a change of the interlock unit, and a change of the FROST state. -/

namespace Sys2Proof.Machine

/-! ## A recomputation -/

/-- An acting station, sound but for the arbiter, the allowance and the targets taken: what a recomputation needs. -/
structure State.Primed (s : State) : Prop where
  acting : s.acting = true
  control : s.ControlSound
  sensing : s.SensingSound
  link : s.LinkReady
  peers : s.PeersSound
  demand : s.DemandSound
  hold : s.HoldSound
  output : s.OutputReady
  interlock : s.InterlockSound

theorem State.Fit.primed {s : State} (h : s.Fit) (ha : s.acting = true) : s.Primed :=
  ⟨ha, h.control, h.sensing, h.link, h.peers, h.demand, h.share.hold, h.output.ready, h.interlock⟩

theorem State.ControlSound.inRange {s : State} (h : s.ControlSound) : s.cfg.InRange := by
  obtain ⟨-, -, hcfg, -⟩ := h
  exact hcfg

theorem State.ShareSound.aC_le {s : State} (h : s.ShareSound) : s.share.aC ≤ s.demand.record.dC := by
  obtain ⟨-, -, haC, -⟩ := h
  exact haC

/-- The allowance formed afresh is sound. -/
theorem State.Primed.recompute_share {s : State} (h : s.Primed) : s.recompute.ShareSound :=
  s.reckon_shareSound h.control.inRange h.peers h.hold

/-- The targets of the new allowance, taken, leave the output stage sound. -/
theorem State.Primed.recompute_output {s : State} (h : s.Primed) : s.recompute.OutputSound := by
  have hready : s.reckon.OutputReady :=
    ⟨h.output.sequencer, h.output.steady, h.output.positions, h.output.settings, h.output.fanTick, h.output.fanTickIn,
      h.output.damperTick, h.output.damperTickIn, h.output.frost, h.output.shut⟩
  exact hready.takeTargets_sound
    (State.flowTargets_inRange h.control.inRange h.demand h.recompute_share.aC_le h.output.settings)

/-- What `LinkReady` speaks of is the link controller, its count and the station state. -/
theorem State.LinkReady.of_eq {s t : State} (h : s.LinkReady) (hl : t.link = s.link) (hm : t.micros = s.micros)
    (hs : t.control.state = s.control.state) : t.LinkReady := by
  obtain ⟨h1, h2, h3, h4, h5, h6, h7, h8⟩ := h
  constructor
  all_goals simp only [State.LineSound, hl, hm, hs]
  exacts [h1, h2, h3, h4, h5, h6, h7, h8]

theorem State.HoldSound.of_eq {s t : State} (h : s.HoldSound) (hl : t.share.hold = s.share.hold)
    (hm : t.share.cap = s.share.cap) (hs : t.control.state = s.control.state) (ho : t.own = s.own) : t.HoldSound := by
  obtain ⟨h1, h2, h3, h4⟩ := h
  constructor
  all_goals simp only [hl, hm, hs, ho]
  exacts [h1, h2, h3, h4]

/-- A recomputation keeps all that it needs. -/
theorem State.Primed.recompute {s : State} (h : s.Primed) : s.recompute.Primed :=
  ⟨h.acting, h.control, h.sensing, h.link.of_eq rfl rfl rfl, h.peers, h.demand, h.recompute_share.hold,
    h.recompute_output.ready, h.interlock⟩

/-- A recomputation leaves an acting station fit. -/
theorem State.Primed.recompute_fit {s : State} (h : s.Primed) (ha : s.ArbiterSound) : s.recompute.Fit :=
  ⟨h.control, State.waitingSound_of_acting h.acting, h.sensing, h.link.of_eq rfl rfl rfl, h.peers, h.demand,
    h.recompute_share, ha, h.recompute_output, h.interlock⟩

/-! ## A change of the arbiter -/

theorem State.flowTargets_of_governing {s : State} {b : Arbiter} (h : b.governing = s.arbiter.governing) :
    State.flowTargets { s with arbiter := b } = s.flowTargets := by
  simp only [State.flowTargets, h]
  rfl

/-- With the governing mode the same, the output stage's targets are the same. -/
theorem State.OutputSound.withArbiter {s : State} (h : s.OutputSound) {b : Arbiter}
    (hb : b.governing = s.arbiter.governing) : State.OutputSound { s with arbiter := b } := by
  have hflow := State.flowTargets_of_governing hb
  refine (State.outputSound_iff _).mpr ⟨?_, ?_, ?_⟩
  · obtain ⟨h1, h2, h3, h4, h5, h6, h7, h8, h9, h10⟩ := h.ready
    exact ⟨h1, h2, h3, h4, h5, h6, h7, h8, h9, h10⟩
  · have ht := h.taken
    rw [State.TargetsTaken, hflow]
    exact ht
  · rw [hflow]
    exact h.flow

theorem State.Primed.withArbiter {s : State} (h : s.Primed) (b : Arbiter) : State.Primed { s with arbiter := b } := by
  obtain ⟨h1, h2, h3, h4, h5, h6, h7, ⟨o1, o2, o3, o4, o5, o6, o7, o8, o9, o10⟩, h9⟩ := h
  exact ⟨h1, h2, h3, h4.of_eq rfl rfl rfl, h5, h6, h7.of_eq rfl rfl rfl rfl,
    ⟨o1, o2, o3, o4, o5, o6, o7, o8, o9, o10⟩, h9⟩

/-- A change of the arbiter handed on leaves an acting station fit where the new arbiter is sound in it. -/
theorem State.Primed.arbitrate_fit {s : State} (h : s.Primed) (hshare : s.ShareSound) (hout : s.OutputSound)
    {f : Arbiter → Arbiter} (hf : State.ArbiterSound { s with arbiter := f s.arbiter }) : (s.arbitrate f).Fit := by
  by_cases hg : (f s.arbiter).governing = s.arbiter.governing
  · rw [State.arbitrate_same hg]
    exact ⟨h.control, State.waitingSound_of_acting h.acting, h.sensing, h.link.of_eq rfl rfl rfl, h.peers, h.demand, hshare,
      hf, hout.withArbiter hg, h.interlock⟩
  · rw [State.arbitrate_new hg]
    exact (h.withArbiter _).recompute_fit hf

theorem State.Fit.arbitrate {s : State} (h : s.Fit) (ha : s.acting = true) {f : Arbiter → Arbiter}
    (hf : State.ArbiterSound { s with arbiter := f s.arbiter }) : (s.arbitrate f).Fit :=
  (h.primed ha).arbitrate_fit h.share h.output hf

/-- The DOOR cause judged leaves an acting station fit. -/
theorem State.Primed.judgeDoor_fit {s : State} (h : s.Primed) (hshare : s.ShareSound) (hout : s.OutputSound)
    (ha : s.ArbiterReady) : s.judgeDoor.Fit := by
  refine h.arbitrate_fit hshare hout ?_
  rw [State.doorCause_eq]
  exact ha.judge

/-! ## The outside temperature selected -/

theorem median_mem {ts : List Int} {m : Int} (h : median ts = some m) : m ∈ ts := by
  obtain ⟨hi, rfl⟩ := List.getElem?_eq_some_iff.mp h
  exact (List.perm_insertionSort (· ≤ ·) ts).mem_iff.mp (List.getElem_mem hi)

theorem outsideHeard_mem {table : List Entry} {t : Int} (h : t ∈ outsideHeard table) : ∃ e ∈ table, e.outside = some t := by
  obtain ⟨e, he, ht⟩ := List.mem_filterMap.mp h
  split_ifs at ht
  exact ⟨e, he, ht⟩

theorem ChannelData.sound_iff (c : ChannelData) :
    c.sound = true ↔ c.badRun < 5 ∧ c.goodRun < 20
      ∧ (c.state = .good → c.goodRun = 0 ∧ c.kind = .none) ∧ (c.state = .fault → c.badRun = 0 ∧ c.kind ≠ .none)
      ∧ (∀ t ∈ c.filtered, inWorkingRange t) := by
  simp only [ChannelData.sound, decide_eq_true_eq]

theorem ChannelData.usable_mem {c : ChannelData} {t : Int} (h : c.usable = some t) : c.filtered = some t := by
  unfold ChannelData.usable at h
  split at h
  · exact h
  · cases h

theorem ChannelData.usable_inRange {c : ChannelData} (hc : c.sound = true) {t : Int} (h : c.usable = some t) :
    inWorkingRange t := by
  obtain ⟨-, -, -, -, hf⟩ := c.sound_iff.mp hc
  exact hf t (ChannelData.usable_mem h)

/-- What a selection leaves alone (R13). -/
theorem selectOutside_frame (fitted : Bool) (table : List Entry) (x : Sensing) :
    selectOutside fitted table x = { x with
      outside := (selectOutside fitted table x).outside, source := (selectOutside fitted table x).source
      selected := (selectOutside fitted table x).selected } := by
  unfold selectOutside
  split
  · rfl
  · rfl
  · split_ifs <;> rfl

/-- The outside temperature selected lies in the working range, and its source says whether one was ever selected (R14,
R16). -/
theorem State.SensingSound.select {s : State} (h : s.SensingSound) (hp : s.PeersSound) :
    s.selectAgain.SensingSound := by
  obtain ⟨h1, h2, h3, h4, h5, h6, h7, h8, h9⟩ := h
  obtain ⟨-, hentry, -⟩ := hp
  have hheard : ∀ {t}, median (outsideHeard s.peers.table) = some t → inWorkingRange t := by
    intro t ht
    obtain ⟨e, he, hout⟩ := outsideHeard_mem (median_mem ht)
    obtain ⟨-, -, -, -, -, -, -, -, -, -, -, hrange⟩ := hentry e he
    exact hrange t hout
  have hown : ∀ {t}, (if s.cfg.freshFitted then s.sensing.fresh.usable else none) = some t → inWorkingRange t := by
    intro t ht
    split_ifs at ht
    exact ChannelData.usable_inRange h4 ht
  unfold State.selectAgain selectOutside
  split
  · next t ht => exact ⟨h1, h2, h3, h4, h5, hown ht, h7, by simp, by simp⟩
  · next t hn ht => exact ⟨h1, h2, h3, h4, h5, hheard ht, h7, by simp, by simp⟩
  · split_ifs with hsel
    · exact ⟨h1, h2, h3, h4, h5, h6, h7, by simpa using hsel, by simp⟩
    · exact ⟨h1, h2, h3, h4, h5, show inWorkingRange 320 by decide, h7, by simpa using hsel, by simp⟩

/-! ## An event of a peer entry -/

theorem State.Primed.selectAgain {s : State} (h : s.Primed) : s.selectAgain.Primed := by
  obtain ⟨h1, h2, h3, h4, h5, h6, h7, ⟨o1, o2, o3, o4, o5, o6, o7, o8, o9, o10⟩, h9⟩ := h
  exact ⟨h1, h2, h3.select h5, h4.of_eq rfl rfl rfl, h5, h6, h7.of_eq rfl rfl rfl rfl,
    ⟨o1, o2, o3, o4, o5, o6, o7, o8, o9, o10⟩, h9⟩

/-- An event of a peer entry handed on leaves an acting station fit; the DOOR cause of a number that is no neighbour's
holds as it held (R41, R43). -/
theorem State.Primed.handEntry_fit {s : State} (h : s.Primed) (number : Nat) (ha : s.ArbiterReady)
    (hcause : adjacentTo s.own number = false → s.arbiter.cause = s.doorHolds) : (s.handEntry number).Fit := by
  have hs := h.recompute.selectAgain
  have hready : s.recompute.selectAgain.ArbiterReady := ⟨ha.sound, ha.cleared, ha.raised, ha.ownDoor, ha.dwell⟩
  unfold State.handEntry
  dsimp only
  split_ifs with hadj
  · exact hs.judgeDoor_fit h.recompute_share h.recompute_output hready
  · exact ⟨hs.control, State.waitingSound_of_acting hs.acting, hs.sensing, hs.link, hs.peers, hs.demand, h.recompute_share,
      (State.arbiterSound_iff _).mpr ⟨hready, hcause (Bool.eq_false_iff.mpr hadj)⟩, h.recompute_output, hs.interlock⟩

/-! ## A change of the interlock unit -/

/-- The interlock unit, but for the ceiling handed on (R130, R150 to R152, R155, R158 to R161). -/
structure Interlock.Ready (stages : Nat) (i : Interlock) : Prop where
  discharge : i.discharge ≤ stages
  trips : i.tripList.length ≤ 3
  unlocked : i.trip ≠ .locked → i.tripList.length ≤ 2
  ordered : i.tripList.Pairwise (· ≥ ·)
  remembered : ∀ age ∈ i.tripList, age ≤ 1800000
  openDwell : i.openDwell.isSome → i.trip = .normal ∨ i.trip = .cooldown
  openLength : i.openDwell.within 100
  cooldown : i.cooldown.isSome ↔ i.trip = .cooldown
  cooldownLength : i.cooldown.within 60000
  coldDwell : i.coldDwell.isSome → i.frost = .clear
  coldLength : i.coldDwell.within 10000
  warmDwell : i.warmDwell.isSome → i.frost = .frost
  warmLength : i.warmDwell.within 60000
  lowDwell : i.lowDwell.isSome → i.supply = .normal
  lowLength : i.lowDwell.within 2000
  recovery : i.recovery.isSome → i.supply = .low
  recoveryLength : i.recovery.within 10000
  drop : i.drop.isSome → i.rise = none
  dropLength : i.drop.within 10000
  rise : i.rise.isSome → i.discharge < stages
  riseLength : i.rise.within 30000

theorem State.interlockSound_iff (s : State) :
    s.InterlockSound ↔ s.interlock.ceiling = s.interlock.effectiveCeiling ∧ s.interlock.Ready s.cfg.stages := by
  constructor
  · rintro ⟨h1, h2, h3, h4, h5, h6, h7, h8, h9, h10, h11, h12, h13, h14, h15, h16, h17, h18, h19, h20, h21, h22⟩
    exact ⟨h1, h2, h3, h4, h5, h6, h7, h8, h9, h10, h11, h12, h13, h14, h15, h16, h17, h18, h19, h20, h21, h22⟩
  · rintro ⟨h1, h2, h3, h4, h5, h6, h7, h8, h9, h10, h11, h12, h13, h14, h15, h16, h17, h18, h19, h20, h21, h22⟩
    exact ⟨h1, h2, h3, h4, h5, h6, h7, h8, h9, h10, h11, h12, h13, h14, h15, h16, h17, h18, h19, h20, h21, h22⟩

theorem State.InterlockSound.ready {s : State} (h : s.InterlockSound) : s.interlock.Ready s.cfg.stages :=
  (s.interlockSound_iff.mp h).2

theorem State.InterlockSound.ceiling {s : State} (h : s.InterlockSound) :
    s.interlock.ceiling = s.interlock.effectiveCeiling := (s.interlockSound_iff.mp h).1

/-- The ceiling in the interlock unit is no part of what it is formed from. -/
theorem Interlock.Ready.withCeiling {stages : Nat} {i : Interlock} (h : i.Ready stages) (c : Nat) :
    Interlock.Ready stages { i with ceiling := c } :=
  ⟨h.discharge, h.trips, h.unlocked, h.ordered, h.remembered, h.openDwell, h.openLength, h.cooldown, h.cooldownLength,
    h.coldDwell, h.coldLength, h.warmDwell, h.warmLength, h.lowDwell, h.lowLength, h.recovery, h.recoveryLength, h.drop,
    h.dropLength, h.rise, h.riseLength⟩

/-- Handing the ceiling on makes the interlock unit sound. -/
theorem State.handCeiling_interlockSound {s : State} (h : s.interlock.Ready s.cfg.stages) :
    s.handCeiling.InterlockSound := by
  rw [s.handCeiling_frame]
  exact (State.interlockSound_iff _).mpr ⟨rfl, h.withCeiling _⟩

/-- A change of the interlock unit that leaves the ceiling and the FROST state leaves the output stage sound. -/
theorem State.OutputSound.withInterlock {s : State} (h : s.OutputSound) {i : Interlock}
    (hc : i.ceiling = s.interlock.ceiling) (hf : i.frost = s.interlock.frost) :
    State.OutputSound { s with interlock := i } := by
  have ht : State.stageTarget { s with interlock := i } = s.stageTarget := by
    simp only [State.stageTarget, hc]
  refine (State.outputSound_iff _).mpr ⟨?_, ?_, h.flow⟩
  · obtain ⟨h1, ⟨h2, h3, h4, h5, h6, h7⟩, h8, h9, h10, h11, h12, h13, h14, h15⟩ := h.ready
    exact ⟨h1, ⟨h2, by rw [hc]; exact h3, h4, h5, h6, h7⟩, h8, h9, h10, h11, h12, h13, fun hfr => h14 (hf ▸ hfr), h15⟩
  · obtain ⟨ht1, hflow⟩ := h.taken
    exact ⟨ht.symm ▸ ht1, hflow⟩

/-- A change of the interlock unit, its ceiling handed on, leaves a fit station fit (R131, R163). -/
theorem State.Fit.protect {s : State} (h : s.Fit) {f : Interlock → Interlock} (hf : (f s.interlock).Ready s.cfg.stages)
    (hc : (f s.interlock).ceiling = s.interlock.ceiling) (hfrost : (f s.interlock).frost = s.interlock.frost)
    (hw : (s.protect f).WaitingSound) : (s.protect f).Fit := by
  have hout : State.OutputSound { s with interlock := f s.interlock } := h.output.withInterlock hc hfrost
  have hout' := State.handCeiling_sound hout h.output.flow
  have hinter := State.handCeiling_interlockSound (s := { s with interlock := f s.interlock }) hf
  have hshare : ∀ i : Interlock, i.frost = s.interlock.frost → State.ShareSound { s with interlock := i } := by
    intro i hi
    have hs := h.share
    simp only [State.ShareSound, hi] at hs ⊢
    exact hs
  change (s.protect f).OutputSound at hout'
  change (s.protect f).InterlockSound at hinter
  rw [State.protect, State.handCeiling_frame] at hw hout' hinter ⊢
  exact ⟨h.control, hw, h.sensing, h.link.of_eq rfl rfl rfl, h.peers, h.demand, hshare _ hfrost, h.arbiter, hout', hinter⟩

theorem State.Fit.protect_acting {s : State} (h : s.Fit) (ha : s.acting = true) {f : Interlock → Interlock}
    (hf : (f s.interlock).Ready s.cfg.stages) (hc : (f s.interlock).ceiling = s.interlock.ceiling)
    (hfrost : (f s.interlock).frost = s.interlock.frost) : (s.protect f).Fit := by
  refine h.protect hf hc hfrost (State.waitingSound_of_acting ?_)
  rw [State.acting, State.awake, State.protect_pins, State.protect_control]
  exact ha

/-! ## A change of the FROST state -/

/-- The FROST state changed and handed on leaves an acting station fit (R156). -/
theorem State.Fit.handFrost {s : State} (h : s.Fit) (ha : s.acting = true) {i : Interlock} (hi : i.Ready s.cfg.stages)
    (hc : i.ceiling = s.interlock.ceiling) (he : i.effectiveCeiling = s.interlock.effectiveCeiling) :
    State.Fit (State.handFrost { s with interlock := i }) := by
  have hp := h.primed ha
  have hinter : State.InterlockSound { s with interlock := i } :=
    (State.interlockSound_iff _).mpr ⟨by rw [hc, h.interlock.ceiling, he], hi⟩
  obtain ⟨o1, ⟨o2, o3, o4, o5, o6, o7⟩, o8, o9, o10, o11, o12, o13, o14, o15⟩ := hp.output
  unfold State.handFrost
  split
  · have hprimed : State.Primed { s with interlock := i, output := { s.output with evapPos := 0 } } :=
      ⟨ha, h.control, h.sensing, h.link.of_eq rfl rfl rfl, h.peers, h.demand, hp.hold.of_eq rfl rfl rfl rfl,
        ⟨o1, ⟨o2, by rw [hc]; exact o3, o4, o5, o6, o7⟩, ⟨o8.1, Nat.zero_le _, o8.2.2⟩, o9, o10, o11, o12, o13,
          fun _ => rfl, fun hs => ⟨rfl, (o15 hs).2⟩⟩, hinter⟩
    exact hprimed.recompute_fit h.arbiter
  · next hclear =>
    have hprimed : State.Primed { s with interlock := i } :=
      ⟨ha, h.control, h.sensing, h.link.of_eq rfl rfl rfl, h.peers, h.demand, hp.hold.of_eq rfl rfl rfl rfl,
        ⟨o1, ⟨o2, by rw [hc]; exact o3, o4, o5, o6, o7⟩, o8, o9, o10, o11, o12, o13,
          fun hf => (by rw [hclear] at hf; cases hf), o15⟩, hinter⟩
    exact hprimed.recompute_fit h.arbiter

end Sys2Proof.Machine
end

section
/-! The peer block's events keep a station fit: the records heard and silent, the table written and aged, and DUPLICATE
(chapter 3). -/

namespace Sys2Proof.Machine

/-! ## A station whose timers run acts -/

theorem State.Fit.acting_of_not_reading {s : State} (h : s.Fit) (hr : s.control.reading = false) : s.acting = true := by
  by_cases ha : s.awake = true
  · simp [State.acting, ha, hr]
  · have := (h.waiting.1 (Bool.eq_false_iff.mpr ha)).1
    rw [hr] at this
    cases this

/-- A block that has left its first value is one of a station that acts (R167). -/
theorem State.Fit.acting_of_moved {s : State} (h : s.Fit)
    (hm : s.peers ≠ .initial ∨ s.demand ≠ .initial ∨ s.share ≠ .initial ∨ s.arbiter ≠ .initial ∨ s.output ≠ .initial) :
    s.acting = true := by
  refine h.acting_of_not_reading (Bool.eq_false_iff.mpr fun hr => ?_)
  obtain ⟨-, h1, h2, h3, h4, h5, -⟩ := h.waiting.2 hr
  simp [h1, h2, h3, h4, h5] at hm

theorem State.Fit.acting_of_peers {s : State} (h : s.Fit) (hm : s.peers ≠ .initial) : s.acting = true :=
  h.acting_of_moved (.inl hm)

theorem State.Fit.acting_of_demand {s : State} (h : s.Fit) (hm : s.demand ≠ .initial) : s.acting = true :=
  h.acting_of_moved (.inr (.inl hm))

theorem State.Fit.acting_of_share {s : State} (h : s.Fit) (hm : s.share ≠ .initial) : s.acting = true :=
  h.acting_of_moved (.inr (.inr (.inl hm)))

theorem State.Fit.acting_of_arbiter {s : State} (h : s.Fit) (hm : s.arbiter ≠ .initial) : s.acting = true :=
  h.acting_of_moved (.inr (.inr (.inr (.inl hm))))

theorem State.Fit.acting_of_output {s : State} (h : s.Fit) (hm : s.output ≠ .initial) : s.acting = true :=
  h.acting_of_moved (.inr (.inr (.inr (.inr hm))))

/-! ## A change of the peer block -/

theorem State.Primed.withPeers {s : State} (h : s.Primed) {p : Peers} (hp : State.PeersSound { s with peers := p }) :
    State.Primed { s with peers := p } := by
  obtain ⟨o1, o2, o3, o4, o5, o6, o7, o8, o9, o10⟩ := h.output
  exact ⟨h.acting, h.control, h.sensing, h.link.of_eq rfl rfl rfl, hp, h.demand, h.hold.of_eq rfl rfl rfl rfl,
    ⟨o1, o2, o3, o4, o5, o6, o7, o8, o9, o10⟩, h.interlock⟩

/-- A change of the peer block that leaves the table leaves an acting station fit. -/
theorem State.Fit.withPeers {s : State} (h : s.Fit) (ha : s.acting = true) {p : Peers}
    (hp : State.PeersSound { s with peers := p }) (ht : p.table = s.peers.table) : State.Fit { s with peers := p } := by
  have harb : State.ArbiterSound { s with peers := p } := by
    obtain ⟨⟨h1, h2, h3, h4, h5⟩, h6⟩ := s.arbiterSound_iff.mp h.arbiter
    refine (State.arbiterSound_iff _).mpr ⟨⟨h1, h2, h3, h4, h5⟩, ?_⟩
    simp only [State.doorHolds, State.neighbourDoor, ht]
    exact h6
  exact ⟨h.control, State.waitingSound_of_acting ha, h.sensing, h.link.of_eq rfl rfl rfl, hp, h.demand, h.share, harb,
    h.output, h.interlock⟩

/-- The allowance recomputed after such a change. -/
theorem State.Fit.withPeers_recompute {s : State} (h : s.Fit) (ha : s.acting = true) {p : Peers}
    (hp : State.PeersSound { s with peers := p }) (ht : p.table = s.peers.table) :
    (State.recompute { s with peers := p }).Fit :=
  ((h.withPeers ha hp ht).primed ha).recompute_fit (h.withPeers ha hp ht).arbiter

section
variable {s : State} (h : s.PeersSound)
include h

theorem State.PeersSound.takeBudget (units : Word) : State.PeersSound { s with peers := s.peers.takeBudget units } := by
  obtain ⟨h1, h2, h3, h4, h5, h6, -, -, -, h10, h11, h12, h13, h14⟩ := h
  refine ⟨h1, h2, h3, h4, h5, h6, ?_, ?_, fun _ => rfl, h10, h11, h12, h13, h14⟩
  · rintro w ⟨⟩
    exact budgetOf_le units
  · rintro left ⟨⟩
    exact le_refl _

theorem State.PeersSound.takePlant (capacity coolant : Word) (fault : Bool) :
    State.PeersSound { s with peers := s.peers.takePlant capacity coolant fault } := by
  obtain ⟨h1, h2, h3, h4, h5, h6, h7, h8, h9, -, -, -, -, h14⟩ := h
  refine ⟨h1, h2, h3, h4, h5, h6, h7, h8, h9, ?_, ?_, ?_, fun _ => ⟨rfl, rfl⟩, fun hot => ⟨rfl, ?_⟩⟩
  · rintro c ⟨⟩
    exact Nat.min_le_left _ _
  · rintro t ⟨⟩
    exact temperatureOf_inWorkingRange coolant
  · rintro left ⟨⟩
    exact le_refl _
  · rintro t ⟨⟩
    simp only [Peers.takePlant, coolantAfter] at hot
    split_ifs at hot with h960 h880
    · exact le_trans (by decide) h960
    · exact not_lt.mp h880

theorem State.PeersSound.takePanel (mode : PanelMode) (setpoint : Word) :
    State.PeersSound { s with peers := s.peers.takePanel mode setpoint } := by
  obtain ⟨h1, h2, h3, -, -, -, h7⟩ := h
  refine ⟨h1, h2, h3, (setpointOf_mem setpoint).1, (setpointOf_mem setpoint).2, ?_, h7⟩
  rintro left ⟨⟩
  exact le_refl _

theorem State.PeersSound.setDuplicate {t : Timer} (ht : t.within (12 * s.cfg.period)) :
    State.PeersSound { s with peers := { s.peers with duplicate := t } } := by
  obtain ⟨h1, h2, -, h4⟩ := h
  exact ⟨h1, h2, ht, h4⟩

theorem State.PeersSound.silencePanel :
    State.PeersSound { s with peers := { s.peers with panel := { s.peers.panel with silence := none } } } := by
  obtain ⟨h1, h2, h3, h4, h5, -, h7⟩ := h
  exact ⟨h1, h2, h3, h4, h5, by rintro left ⟨⟩, h7⟩

theorem State.PeersSound.silenceBudget :
    State.PeersSound { s with peers := { s.peers with budget := { s.peers.budget with silence := none } } } := by
  obtain ⟨h1, h2, h3, h4, h5, h6, h7, -, -, h10⟩ := h
  exact ⟨h1, h2, h3, h4, h5, h6, h7, by rintro left ⟨⟩, fun hs => (by cases hs), h10⟩

theorem State.PeersSound.silencePlant :
    State.PeersSound
      { s with peers := { s.peers with plant := { s.peers.plant with silence := none }, coolant := .cold } } := by
  obtain ⟨h1, h2, h3, h4, h5, h6, h7, h8, h9, h10, h11, -, -, -⟩ := h
  exact ⟨h1, h2, h3, h4, h5, h6, h7, h8, h9, h10, h11, by rintro left ⟨⟩, fun hs => (by cases hs), fun hot => by cases hot⟩

/-- An entry written, of a number from 1 to Z other than the own (R37, R39). -/
theorem State.PeersSound.writeEntry {e : Entry} (he : e.Sound s.cfg s.own) :
    State.PeersSound { s with peers := { s.peers with table := writeEntry e s.peers.table } } := by
  obtain ⟨h1, h2, h3⟩ := h
  refine ⟨writeEntry_ascending h1, fun x hx => ?_, h3⟩
  obtain rfl | hx := writeEntry_mem hx
  · exact he
  · exact h2 x hx

/-- An entry's state set, its age at least the one of that state (R40). -/
theorem State.PeersSound.setStanding {number : Nat} {state : EntryState}
    (hage : ∀ e ∈ s.peers.table, e.number = number →
      (state = .stale → 3 * s.cfg.period ≤ e.age) ∧ (state = .lost → e.age = 12 * s.cfg.period)) :
    State.PeersSound { s with peers := { s.peers with table := setStanding number state s.peers.table } } := by
  obtain ⟨h1, h2, h3⟩ := h
  refine ⟨?_, fun x hx => ?_, h3⟩
  · have hnumbers : (Machine.setStanding number state s.peers.table).map (·.number) = s.peers.table.map (·.number) := by
      rw [Machine.setStanding, List.map_map]
      refine List.map_congr_left fun e _ => ?_
      dsimp only [Function.comp]
      split_ifs <;> rfl
    simpa only [hnumbers] using h1
  · obtain ⟨e, he, rfl⟩ := List.mem_map.mp hx
    obtain ⟨e1, e2, e3, e4, e5, e6, e7⟩ := h2 e he
    split_ifs with hn
    · exact ⟨e1, e2, e3, e4, (hage e he hn).1, (hage e he hn).2, e7⟩
    · exact ⟨e1, e2, e3, e4, e5, e6, e7⟩

end

/-! ## The entry of a report -/

theorem powerOf_le (b : Byte) : powerOf b ≤ 6000 := by
  unfold powerOf
  omega

/-- A report of a number from 1 to Z other than the own gives a sound entry (R39). -/
theorem entryOf_sound {cfg : Settings} {own number : Nat} (r : ReportBody) (hn : number ≠ own) (hl : 1 ≤ number)
    (hz : number ≤ cfg.zones) : (entryOf number r).Sound cfg own := by
  refine ⟨hl, hz, hn, Nat.zero_le _, fun h => (by cases h), fun h => (by cases h), powerOf_le _, Nat.min_le_left _ _,
    powerOf_le _, Nat.min_le_left _ _, ?_, ?_⟩
  all_goals
    intro t ht
    obtain ⟨w, -, rfl⟩ := Option.map_eq_some_iff.mp ht
    exact temperatureOf_inWorkingRange w

/-! ## The door conditions of the neighbours -/

theorem neighbourDoor_writeEntry {s : State} {e : Entry} (hn : adjacentTo s.own e.number = false) :
    State.neighbourDoor { s with peers := { s.peers with table := writeEntry e s.peers.table } } = s.neighbourDoor := by
  have hself : decide (e.state = .live ∧ (e.number + 1 = s.own ∨ e.number = s.own + 1) ∧ e.door = true) = false := by
    simp only [adjacentTo, Bool.or_eq_false_iff, decide_eq_false_iff_not] at hn
    simp [hn]
  have hwrite : ∀ table : List Entry,
      (writeEntry e table).any (fun e => decide
          (e.state = .live ∧ (e.number + 1 = s.own ∨ e.number = s.own + 1) ∧ e.door = true)) =
        table.any fun e => decide (e.state = .live ∧ (e.number + 1 = s.own ∨ e.number = s.own + 1) ∧ e.door = true) := by
    intro table
    induction table with
    | nil => simpa [writeEntry] using hself
    | cons x xs ih =>
      simp only [writeEntry]
      split_ifs with hlt heq
      · rw [List.any_cons, hself, Bool.false_or]
      · rw [List.any_cons, hself, List.any_cons]
        rw [heq] at hself
        simp only [adjacentTo, Bool.or_eq_false_iff, decide_eq_false_iff_not, heq] at hn
        simp [hn]
      · rw [List.any_cons, List.any_cons, ih]
  exact hwrite s.peers.table

theorem neighbourDoor_setStanding {s : State} {number : Nat} (state : EntryState) (hn : adjacentTo s.own number = false) :
    State.neighbourDoor { s with peers := { s.peers with table := setStanding number state s.peers.table } }
      = s.neighbourDoor := by
  simp only [State.neighbourDoor, setStanding, List.any_map]
  congr 1
  funext e
  simp only [adjacentTo, Bool.or_eq_false_iff, decide_eq_false_iff_not] at hn
  dsimp only [Function.comp]
  split_ifs with he
  · subst he
    simp only [State.own] at hn ⊢
    simp [hn]
  · rfl

/-! ## The events of the peer block -/

/-- An entry's event handed on leaves a fit station fit (R41). -/
theorem State.Fit.handEntry {s : State} (h : s.Fit) (ha : s.acting = true) {number : Nat} {table : List Entry}
    (hp : State.PeersSound { s with peers := { s.peers with table := table } })
    (hdoor : adjacentTo s.own number = false →
      State.neighbourDoor { s with peers := { s.peers with table := table } } = s.neighbourDoor) :
    (State.handEntry number { s with peers := { s.peers with table := table } }).Fit := by
  obtain ⟨⟨h1, h2, h3, h4, h5⟩, hcause⟩ := s.arbiterSound_iff.mp h.arbiter
  refine ((h.primed ha).withPeers hp).handEntry_fit number ⟨h1, h2, h3, h4, h5⟩ fun hadj => ?_
  rw [State.doorHolds, hdoor hadj]
  exact hcause

theorem State.Fit.stand {s : State} (h : s.Fit) (ha : s.acting = true) {number : Nat} {state : EntryState}
    (hage : ∀ e ∈ s.peers.table, e.number = number →
      (state = .stale → 3 * s.cfg.period ≤ e.age) ∧ (state = .lost → e.age = 12 * s.cfg.period)) :
    (s.stand number state).Fit :=
  h.handEntry ha (h.peers.setStanding hage) (neighbourDoor_setStanding state)

theorem State.Fit.duplicateHeard {s : State} (h : s.Fit) (ha : s.acting = true) : s.duplicateHeard.Fit := by
  have hp := h.peers.setDuplicate (t := some (lostAge s.cfg)) (by rintro left ⟨⟩; exact le_refl _)
  unfold State.duplicateHeard
  dsimp only
  split_ifs
  · exact h.withPeers ha hp rfl
  · exact h.withPeers_recompute ha hp rfl

theorem State.Fit.reportFrom {s : State} (h : s.Fit) (ha : s.acting = true) (source : Nat) (r : ReportBody) :
    (s.reportFrom source r).Fit := by
  unfold State.reportFrom
  split_ifs with hown hrange
  · exact h.duplicateHeard ha
  · exact h.handEntry ha (h.peers.writeEntry (entryOf_sound r hown hrange.1 hrange.2))
      fun hadj => neighbourDoor_writeEntry hadj
  · exact h

end Sys2Proof.Machine
end

section
/-! Entries to the station states keep a station fit, and with them the PANEL (R49, R99, R104, R122, R144 to R146, R166,
R169, R170). -/

namespace Sys2Proof.Machine

/-! ## Timers within their lengths -/

theorem Timer.within_none (most : Nat) : Timer.within most none := by rintro left ⟨⟩

theorem Timer.within_full (most : Nat) : Timer.within most (some most) := by
  rintro left ⟨⟩
  exact le_refl _

/-! ## Station control at an entry -/

theorem State.ControlSound.phase {s : State} (h : s.ControlSound) (hr : s.control.reading = false) :
    s.control.phase = .listening := by
  obtain ⟨-, -, -, -, hphase, -⟩ := h
  cases hp : s.control.phase with
  | listening => rfl
  | reading => simp [Control.reading, hp, hphase hp] at hr

/-- Station control at an entry to a state other than STARTING: the listen period is over, and the test timer runs where
the state is TEST. -/
theorem State.ControlSound.enter {s : State} (h : s.ControlSound) (ha : s.acting = true) {state : StationState}
    {test : Timer} (hst : state ≠ .starting) (ht : test.isSome ↔ state = .test) (hl : test.within 120000) {t : State}
    (hc : t.control = { s.control with state := state, listen := none, test := test }) (hp : t.pins = s.pins)
    (hlink : t.link = s.link) : t.ControlSound := by
  have hr : s.control.reading = false := by simp [State.acting] at ha; exact ha.2
  have hphase := h.phase hr
  obtain ⟨h1, h2, h3, h4, -, -, -, -, -, h10, h11, -, h13⟩ := h
  have hnone : s.control.read = none := by
    rw [hr] at h11
    simpa using h11
  have hreading : t.control.reading = false := by simp [Control.reading, hc, hst]
  simp only [State.ControlSound, State.own, State.cfg, State.awake, hp, hlink, hc] at *
  refine ⟨h1, h2, h3, fun _ => h4 hr, fun hph => ?_, ?_, ?_, ht, hl, fun hp => ⟨hst, (h10 hp).2⟩, ?_, ?_, h13⟩
  · rw [hphase] at hph
    cases hph
  · simp [hst]
  · exact Timer.within_none _
  · simp [hnone, Control.reading, hst]
  · rw [hnone]
    exact Timer.within_none _

/-- The link controller at an entry to a state other than STARTING. -/
theorem State.LinkReady.enter {s t : State} (h : s.LinkReady) (hl : t.link = s.link) (hm : t.micros = s.micros)
    (hs : t.control.state ≠ .starting) : t.LinkReady := by
  obtain ⟨h1, h2, h3, h4, h5, h6, h7, -⟩ := h
  constructor
  case starting => exact fun hst => absurd hst hs
  all_goals simp only [State.LineSound, hl, hm]
  exacts [h1, h2, h3, h4, h5, h6, h7]

theorem State.acting_iff (s : State) : s.acting = true ↔ s.awake = true ∧ s.control.reading = false := by
  simp [State.acting]

/-- The zero demand record is sound. -/
theorem State.demandSound_initial {s : State} (hd : s.demand = .initial)
    (hs : s.control.state = .starting ∨ s.control.state = .standby) : s.DemandSound := by
  have hno : ¬(s.control.state = .running ∨ s.control.state = .test) := by
    rcases hs with hs | hs <;> simp [hs]
  simp only [State.DemandSound, hd, Demand.initial, DemandRecord.zero]
  simpa [hno] using Timer.within_none 1000

/-! ## Entry to STANDBY -/

/-- The station as an entry to STANDBY leaves it before the allowance is formed. -/
def State.stoodBy (s : State) : State :=
  { s with
    control := { s.control with state := .standby, listen := none, test := none }
    demand := .initial
    share := { s.share with hold := none, cap := 0 }
    arbiter := s.arbiter.cleared
    output := s.output.shutValves }

theorem State.enterStandby_eq (s : State) : s.enterStandby = s.stoodBy.recompute := rfl

theorem State.Fit.enterStandby {s : State} (h : s.Fit) (ha : s.acting = true) : s.enterStandby.Fit := by
  have hcontrol : s.stoodBy.ControlSound :=
    h.control.enter ha (state := .standby) (test := none) (by decide) (by simp) (Timer.within_none _) rfl rfl rfl
  have hr : s.control.reading = false := (s.acting_iff.mp ha).2
  obtain ⟨o1, ⟨o2, o3, o4, o5, o6, o7⟩, ⟨o8, o9, o10, o11⟩, o12, o13, o14, o15, o16, o17, o18⟩ := h.output.ready
  have hprimed : s.stoodBy.Primed := by
    refine ⟨?_, hcontrol, h.sensing, h.link.enter rfl rfl (show StationState.standby ≠ .starting by decide), h.peers,
      State.demandSound_initial rfl (.inr rfl),
      ⟨fun _ => rfl, fun hs => (by cases hs), (Timer.within_none _), Nat.zero_le _⟩, ?_, h.interlock⟩
    · exact (State.acting_iff _).mpr ⟨(s.acting_iff.mp ha).1, by simp [State.stoodBy, Control.reading]⟩
    · have hrd : s.stoodBy.control.reading = false := by simp [State.stoodBy, Control.reading]
      exact ⟨o1, ⟨o2, o3, o4, o5, o6, o7⟩, ⟨o8, Nat.zero_le _, Nat.zero_le _, o11⟩, o12, by rw [hrd]; rw [hr] at o13; exact o13,
        o14, by rw [hrd]; rw [hr] at o15; exact o15, o16, fun _ => rfl, fun _ => ⟨rfl, rfl⟩⟩
  obtain ⟨a1, a2, a3, a4⟩ := h.arbiter.cleared
  exact hprimed.recompute_fit ((State.arbiterSound_iff _).mpr
    ⟨⟨a1, fun _ => ⟨rfl, rfl, rfl, rfl, rfl⟩, fun hs => (by cases hs), a3, a4⟩, a2⟩)

/-! ## Entry to RUNNING -/

/-- Targets taken leave an acting station fit. -/
theorem State.Primed.takeTargets_fit {s : State} (h : s.Primed) (hshare : s.ShareSound) (harb : s.ArbiterSound) :
    s.takeTargets.Fit :=
  ⟨h.control, State.waitingSound_of_acting h.acting, h.sensing, h.link.of_eq rfl rfl rfl, h.peers, h.demand, hshare, harb,
    h.output.takeTargets_sound
      (State.flowTargets_inRange h.control.inRange h.demand hshare.aC_le h.output.settings), h.interlock⟩

/-- The station at an entry to RUNNING, before the modes are raised. -/
def State.setOff (s : State) : State :=
  { s with
    control := { s.control with state := .running, listen := none, test := none }
    demand := { s.demand with passTimer := passTimerAtRunning s.control.state s.demand.passTimer } }

theorem State.enterRunning_eq (s : State) :
    s.enterRunning = (s.setOff.arbitrate (Arbiter.raiseAtEntry s.peers.panel.mode)).takeTargets := rfl

/-- A change of the arbiter handed on, whatever the targets that stood. -/
theorem State.Primed.arbitrate {s : State} (h : s.Primed) (hshare : s.ShareSound) (f : Arbiter → Arbiter) :
    (s.arbitrate f).Primed ∧ (s.arbitrate f).ShareSound := by
  by_cases hg : (f s.arbiter).governing = s.arbiter.governing
  · rw [State.arbitrate_same hg]
    exact ⟨h.withArbiter _, hshare⟩
  · rw [State.arbitrate_new hg]
    exact ⟨(h.withArbiter _).recompute, (h.withArbiter _).recompute_share⟩

/-- The DOOR cause's conditions are no part of the arbiter's modes. -/
theorem State.arbitrate_doorHolds {f : Arbiter → Arbiter} {s : State} (hf : (f s.arbiter).ownDoor = s.arbiter.ownDoor) :
    (s.arbitrate f).doorHolds = s.doorHolds := by
  simp only [State.doorHolds, State.neighbourDoor, State.cfg, State.own, State.arbitrate_arbiter', State.arbitrate_control,
    State.arbitrate_peers, hf]
  rfl

theorem State.DemandSound.passTimer_atRunning {s : State} (h : s.DemandSound) :
    (passTimerAtRunning s.control.state s.demand.passTimer).isSome
    ∧ (passTimerAtRunning s.control.state s.demand.passTimer).within 1000 := by
  obtain ⟨hsome, hwithin, -⟩ := h
  unfold passTimerAtRunning
  split
  · next ht => exact ⟨hsome.mpr (.inr ht), hwithin⟩
  all_goals exact ⟨rfl, Timer.within_full _⟩

theorem State.Fit.enterRunning {s : State} (h : s.Fit) (ha : s.acting = true) :
    s.enterRunning.Fit := by
  have hcontrol : s.setOff.ControlSound :=
    h.control.enter ha (state := .running) (test := none) (by decide) (by simp) (Timer.within_none _) rfl rfl rfl
  have hr : s.control.reading = false := (s.acting_iff.mp ha).2
  have hrd : s.setOff.control.reading = false := by simp [State.setOff, Control.reading]
  obtain ⟨hpass, hlength⟩ := h.demand.passTimer_atRunning
  have hdemand : s.setOff.DemandSound := by
    obtain ⟨-, -, -, d4⟩ := h.demand
    exact ⟨⟨fun _ => .inl rfl, fun _ => hpass⟩, hlength, fun hn => (by rcases hn with hn | hn <;> cases hn), d4⟩
  have hshare : s.setOff.ShareSound := by
    obtain ⟨h1, h2, h3, h4, h5, h6, h7, h8, h9, h10, h11, h12, h13, h14, h15, -, h17⟩ := h.share
    exact ⟨h1, h2, h3, h4, h5, h6, h7, h8, h9, h10, h11, h12, h13, h14, h15, fun _ => .inl rfl, h17⟩
  have hprimed : s.setOff.Primed := by
    obtain ⟨o1, ⟨o2, o3, o4, o5, o6, o7⟩, o8, o12, o13, o14, o15, o16, o17, -⟩ := h.output.ready
    refine ⟨?_, hcontrol, h.sensing, h.link.enter rfl rfl (show StationState.running ≠ .starting by decide), h.peers, hdemand, hshare.hold, ?_, h.interlock⟩
    · exact (State.acting_iff _).mpr ⟨(s.acting_iff.mp ha).1, hrd⟩
    · exact ⟨o1, ⟨o2, o3, o4, o5, o6, o7⟩, o8, o12, by rw [hrd]; rw [hr] at o13; exact o13, o14,
        by rw [hrd]; rw [hr] at o15; exact o15, o16, o17, fun hn => (by rcases hn with hn | hn <;> cases hn)⟩
  obtain ⟨hmoved, hmovedShare⟩ := hprimed.arbitrate hshare (Arbiter.raiseAtEntry s.peers.panel.mode)
  obtain ⟨hready, hcause⟩ := s.arbiterSound_iff.mp h.arbiter
  obtain ⟨hsound, hkeeps, hdoor⟩ := hready.sound.raiseAtEntry s.peers.panel.mode
  rw [State.enterRunning_eq]
  refine hmoved.takeTargets_fit hmovedShare ((State.arbiterSound_iff _).mpr ⟨?_, ?_⟩)
  · constructor
    all_goals rw [State.arbitrate_arbiter']
    · exact hsound
    · rw [State.arbitrate_control]
      exact fun hn => absurd rfl hn
    · exact fun _ hc => hdoor (hkeeps.cause ▸ hc)
    · intro ho
      rw [State.cfg, State.arbitrate_control, State.arbitrate_pins]
      exact hready.ownDoor (hkeeps.ownDoor ▸ ho)
    · intro hd
      rw [State.cfg, State.arbitrate_control, State.arbitrate_pins]
      exact hready.dwell (hkeeps.dwell ▸ hd)
  · have hholds := State.arbitrate_doorHolds (s := s.setOff) hkeeps.ownDoor
    rw [State.arbitrate_arbiter']
    exact (hkeeps.cause.trans hcause).trans hholds.symm

/-! ## The PANEL -/

/-- What a PANEL does to the station state, said once (R166, R170). -/
theorem State.followPanel_cases (changed silent : Bool) (s : State) :
    (s.control.state = .running ∧ s.peers.panel.mode = .off ∧ (changed || silent) = true
        ∧ s.followPanel changed silent = s.enterStandby)
    ∨ ((s.control.state = .standby ∨ s.control.state = .test) ∧ s.peers.panel.mode ≠ .off ∧ changed = true
        ∧ s.followPanel changed silent = s.enterRunning)
    ∨ (¬(s.control.state = .running ∧ s.peers.panel.mode = .off ∧ (changed || silent) = true)
        ∧ ¬((s.control.state = .standby ∨ s.control.state = .test) ∧ s.peers.panel.mode ≠ .off ∧ changed = true)
        ∧ s.followPanel changed silent = s) := by
  unfold State.followPanel
  cases hs : s.control.state <;> cases hm : s.peers.panel.mode <;> cases changed <;> cases silent <;> simp

theorem State.Fit.followPanel {s : State} (h : s.Fit) (ha : s.acting = true) (changed silent : Bool) :
    (s.followPanel changed silent).Fit := by
  obtain ⟨-, -, -, he⟩ | ⟨-, -, -, he⟩ | ⟨-, -, he⟩ := s.followPanel_cases changed silent <;> rw [he]
  · exact h.enterStandby ha
  · exact h.enterRunning ha
  · exact h

theorem State.Fit.panel {s : State} (h : s.Fit) (ha : s.acting = true) (mode : PanelMode) (setpoint : Word) :
    (s.panel mode setpoint).Fit := by
  have h1 := h.withPeers ha (h.peers.takePanel mode setpoint) rfl
  unfold State.panel
  dsimp only
  split_ifs
  · exact h1.followPanel ha _ _
  · refine State.Fit.followPanel (h1.arbitrate ha (h1.arbiter.panelChange _ _)) ?_ _ _
    rw [State.acting, State.awake, State.arbitrate_pins, State.arbitrate_control]
    exact ha

end Sys2Proof.Machine
end

section
/-! The demand unit: the split of an output into stages, valve target and demands, the record of a pass, and that a pass
keeps the record within its ranges (chapter 4). -/

namespace Sys2Proof.Machine

/-! ## The heat split -/

/-- A quotient rounded up is the least number of divisors that covers the dividend (00, arithmetic). -/
theorem ceilDiv_bounds (a : Nat) {b : Nat} (hb : 0 < b) : a ≤ b * ceilDiv a b ∧ b * ceilDiv a b < a + b := by
  have hdiv := Nat.div_add_mod (a + b - 1) b
  have hmod := Nat.mod_lt (a + b - 1) hb
  unfold ceilDiv
  omega

theorem ceilDiv_le {a b n : Nat} (hb : 0 < b) (h : a ≤ n * b) : ceilDiv a b ≤ n := by
  have hlt := (ceilDiv_bounds a hb).2
  by_contra hn
  have hmul : b * (n + 1) ≤ b * ceilDiv a b := Nat.mul_le_mul_left b (by omega)
  rw [Nat.mul_add, Nat.mul_comm b n] at hmul
  omega

theorem stagesSplit_cold (cfg : Settings) (h : Nat) : stagesSplit cfg .cold h = ceilDiv (h * cfg.stages) 1000 := rfl

section
variable {cfg : Settings} {h : Nat}

theorem stagesSplit_none (hc : cfg.coolantShare = 0) : stagesSplit cfg .hot h = ceilDiv (h * cfg.stages) 1000 := by
  simp [stagesSplit, hc]

theorem stagesSplit_all (hc : cfg.coolantShare = 1000) : stagesSplit cfg .hot h = 0 := by simp [stagesSplit, hc]

theorem stagesSplit_within (hc : 0 < cfg.coolantShare) (hh : h ≤ cfg.coolantShare) : stagesSplit cfg .hot h = 0 := by
  have hne : cfg.coolantShare ≠ 0 := by omega
  simp [stagesSplit, hne, hh]

theorem stagesSplit_beyond (hc : 0 < cfg.coolantShare) (hc' : cfg.coolantShare < 1000) (hh : cfg.coolantShare < h) :
    stagesSplit cfg .hot h = ceilDiv ((h - cfg.coolantShare) * cfg.stages) (1000 - cfg.coolantShare) := by
  have hne : cfg.coolantShare ≠ 0 := by omega
  have hne' : cfg.coolantShare ≠ 1000 := by omega
  have hlt : ¬ h ≤ cfg.coolantShare := by omega
  simp [stagesSplit, hne, hne', hlt]

theorem coolantSplit_cold : coolantSplit cfg .cold h = 0 := rfl

theorem coolantSplit_none (hc : cfg.coolantShare = 0) : coolantSplit cfg .hot h = 0 := by simp [coolantSplit, hc]

theorem coolantSplit_all (hc : cfg.coolantShare = 1000) : coolantSplit cfg .hot h = h := by simp [coolantSplit, hc]

theorem coolantSplit_within (hc : 0 < cfg.coolantShare) (hc' : cfg.coolantShare < 1000) (hh : h ≤ cfg.coolantShare) :
    coolantSplit cfg .hot h = min 1000 (h * 1000 / cfg.coolantShare) := by
  have hne : cfg.coolantShare ≠ 0 := by omega
  have hne' : cfg.coolantShare ≠ 1000 := by omega
  simp [coolantSplit, hne, hne', hh]

theorem coolantSplit_beyond (hc : 0 < cfg.coolantShare) (hc' : cfg.coolantShare < 1000) (hh : cfg.coolantShare < h) :
    coolantSplit cfg .hot h = 1000 := by
  have hne : cfg.coolantShare ≠ 0 := by omega
  have hne' : cfg.coolantShare ≠ 1000 := by omega
  have hlt : ¬ h ≤ cfg.coolantShare := by omega
  simp [coolantSplit, hne, hne', hlt]

/-- No more stages are wanted than are fitted (R74, R75). -/
theorem stagesSplit_le (coolant : CoolantState) (hh : h ≤ 1000) : stagesSplit cfg coolant h ≤ cfg.stages := by
  have hwhole : ceilDiv (h * cfg.stages) 1000 ≤ cfg.stages :=
    ceilDiv_le (by decide) (by rw [Nat.mul_comm]; exact Nat.mul_le_mul_left _ hh)
  cases coolant with
  | cold => exact hwhole
  | hot =>
    simp only [stagesSplit]
    split_ifs
    · exact hwhole
    · exact Nat.zero_le _
    · exact Nat.zero_le _
    · refine ceilDiv_le (by omega) ?_
      rw [Nat.mul_comm]
      exact Nat.mul_le_mul_left _ (by omega)

/-- The coolant valve's target lies in its range (R74, R75). -/
theorem coolantSplit_le (coolant : CoolantState) (hh : h ≤ 1000) : coolantSplit cfg coolant h ≤ 1000 := by
  cases coolant with
  | cold => exact Nat.zero_le _
  | hot =>
    simp only [coolantSplit]
    split_ifs <;> omega

end

theorem coolingDemand_le (cool rating : Nat) (hc : cool ≤ 1000) : cool * rating / 1000 ≤ rating := by
  have hmul : cool * rating ≤ 1000 * rating := Nat.mul_le_mul_right _ hc
  omega

/-- Settles O12: R74's rows by the coolant share, R75's cold coolant and R76's demands. -/
theorem heatSplit : Obligations.HeatSplit := by
  intro cfg coolant u r hcfg hlow hhigh d h w
  obtain ⟨-, -, -, hstages, hpower, -, -, hshare, -⟩ := hcfg
  have hh : h ≤ 1000 := by
    change u.toNat ≤ 1000
    omega
  have hw : w ≤ cfg.stages := stagesSplit_le coolant hh
  have hEl : w * cfg.stagePower ≤ 6000 := by
    calc w * cfg.stagePower ≤ 3 * 2000 := Nat.mul_le_mul (hw.trans hstages) hpower
      _ = 6000 := rfl
  have hcool : d.cool ≤ 1000 := by
    change (-u).toNat ≤ 1000
    omega
  have hround := ceilDiv_bounds (h * cfg.stages) (b := 1000) (by decide)
  refine ⟨rfl, Int.toNat_eq_max u, Int.toNat_eq_max (-u), ?_, ?_, ?_, ?_, ?_, ?_, hw, rfl, hEl, rfl,
    coolingDemand_le _ _ hcool, rfl, rfl, rfl, rfl, rfl⟩
  · change u.toNat = 0 ∨ (-u).toNat = 0
    omega
  · rintro rfl hc
    refine ⟨coolantSplit_none hc, ?_⟩
    rw [show w = ceilDiv (h * cfg.stages) 1000 from stagesSplit_none hc]
    exact hround
  · rintro rfl hc hc' hle
    exact ⟨coolantSplit_within hc hc' hle, stagesSplit_within hc hle⟩
  · rintro rfl hc hc' hlt
    refine ⟨coolantSplit_beyond hc hc' hlt, ?_⟩
    rw [show w = _ from stagesSplit_beyond hc hc' hlt]
    exact ceilDiv_bounds _ (by omega)
  · rintro rfl hc
    exact ⟨coolantSplit_all hc, stagesSplit_all hc⟩
  · rintro rfl
    exact ⟨rfl, hround⟩

/-! ## The record of a pass -/

/-- The dead band takes its width off an error, toward 0 (R67). -/
theorem reducedError_eq {band : Int} (hb : 0 ≤ band) (e : Int) :
    reducedError band e = if 0 ≤ e then max 0 (e - band) else min 0 (e + band) := by
  unfold reducedError
  rcases lt_trichotomy e 0 with he | rfl | he
  · rw [Int.sign_eq_neg_one_of_neg he]
    split_ifs <;> omega
  · split_ifs <;> omega
  · rw [Int.sign_eq_one_of_pos he]
    split_ifs <;> omega

theorem effectiveDeadBand_eq (governing : Mode) (deadBand : Nat) :
    effectiveDeadBand governing deadBand = if governing = .economy then (deadBand : Int) + 32 else deadBand := by
  cases governing <;> rfl

theorem effectiveSetpoint_eq (governing : Mode) (sp offset outside : Int) :
    effectiveSetpoint governing sp offset outside =
      max 256 (min 464 (if governing = .precond then sp
        else sp + offset + summerCompensation outside + winterCompensation outside)) := by
  cases governing <;> rfl

theorem freezes_iff (m : Mode) : freezes m = true ↔ m = .vent ∨ m = .boost ∨ m = .door := by
  cases m <;> decide

theorem skipsIncrement_iff (governing : Mode) (error previous : Int) (heatLimited coolLimited : Bool) :
    skipsIncrement governing error previous heatLimited coolLimited = true ↔
      (governing = .vent ∨ governing = .boost ∨ governing = .door)
        ∨ (0 < error ∧ (previous = 1000 ∨ heatLimited = true))
        ∨ (error < 0 ∧ (previous = -1000 ∨ coolLimited = true)) := by
  simp only [skipsIncrement, Bool.or_eq_true, Bool.and_eq_true, decide_eq_true_eq, beq_iff_eq, freezes_iff]
  tauto

theorem controllerOutput_eq (governing : Mode) (kp : Nat) (error iAcc : Int) :
    controllerOutput governing kp error iAcc =
      if governing = .boost ∧ 0 < error then 1000 else if governing = .boost ∧ error < 0 then -1000
      else max (-1000) (min 1000 (((kp : Int) * error).tdiv 16 + iAcc.tdiv 60)) := by
  cases governing <;> simp [controllerOutput, clampInt, proportional, integral]

theorem controllerOutput_mem (governing : Mode) (kp : Nat) (error iAcc : Int) :
    -1000 ≤ controllerOutput governing kp error iAcc ∧ controllerOutput governing kp error iAcc ≤ 1000 := by
  rw [controllerOutput_eq]
  split_ifs <;> omega

/-- The return value used and its source, where there is one (R65). -/
theorem returnValue_some {own : Option Int} {neighbours : List Int} (h : ¬(own = none ∧ neighbours = [])) :
    returnValue own neighbours =
      some (own.getD (neighbours.sum.tdiv neighbours.length), if own.isSome then .own else .adjacent) := by
  cases own with
  | some t => rfl
  | none =>
    cases neighbours with
    | nil => exact absurd ⟨rfl, rfl⟩ h
    | cons t ts => rfl

theorem returnValue_none {own : Option Int} {neighbours : List Int} (h : own = none ∧ neighbours = []) :
    returnValue own neighbours = none := by
  obtain ⟨rfl, rfl⟩ := h
  rfl

theorem controlPass_of_vent {x : PassInputs} (h : x.governing = .vent) (r : DemandRecord) :
    controlPass x r = ventPass x r := by simp [controlPass, h]

theorem controlPass_of_not_vent {x : PassInputs} (h : x.governing ≠ .vent) (r : DemandRecord) :
    controlPass x r =
      match returnValue x.ownReturn x.neighbours with
      | some (t, source) => activePass x t source r
      | none => holdPass r := by
  unfold controlPass
  split
  · exact absurd ‹_› h
  all_goals rfl

theorem coolantSplit_zero (cfg : Settings) (coolant : CoolantState) : coolantSplit cfg coolant 0 = 0 := by
  cases coolant <;> simp [coolantSplit]

theorem stagesSplit_zero (cfg : Settings) (coolant : CoolantState) : stagesSplit cfg coolant 0 = 0 := by
  cases coolant <;> simp [stagesSplit, ceilDiv]

/-- A pass in VENT demands nothing (R73). -/
theorem splitDemand_zero (cfg : Settings) (coolant : CoolantState) (r : DemandRecord) :
    splitDemand cfg coolant 0 r =
      { r with u := 0, heat := 0, cool := 0, coolantTarget := 0, stagesWanted := 0, dEl := 0, dC := 0 } := by
  simp [splitDemand, coolantSplit_zero, stagesSplit_zero]

/-- Settles O13: the record of a pass in VENT, of a hold pass and of a pass with a return value. -/
theorem controlPassRecord : Obligations.ControlPassRecord := by
  intro x r d sum sp band held used source e reduced frozen blocked acc pi
  have hband : 0 ≤ band := by
    dsimp only [band]
    split_ifs <;> omega
  have hreduced : reducedError (effectiveDeadBand x.governing x.cfg.deadBand) e = reduced := by
    rw [effectiveDeadBand_eq, reducedError_eq hband]
  have hsp : effectiveSetpoint x.governing x.setpoint x.cfg.offset x.outside = sp := effectiveSetpoint_eq _ _ _ _
  refine ⟨fun hg hheld => ?_, fun hg hheld => ?_, fun hg => ?_⟩
  · dsimp only [d]
    rw [controlPass_of_not_vent hg, returnValue_none hheld]
    rfl
  · have hd : d = activePass x used source r := by
      dsimp only [d]
      rw [controlPass_of_not_vent hg, returnValue_some hheld]
    have herror : d.error = reduced := by
      rw [hd, ← hreduced, ← show sp - used = e from rfl, ← hsp]
      rfl
    have hacc : d.iAcc = if frozen ∨ blocked then r.iAcc else acc := by
      have hskip := skipsIncrement_iff x.governing d.error r.u x.heatLimited x.coolLimited
      have hint : d.iAcc = integrate (skipsIncrement x.governing d.error r.u x.heatLimited x.coolLimited) x.cfg.ki
          d.error r.iAcc := by
        rw [hd]
        rfl
      rw [hint]
      rw [herror] at hskip ⊢
      by_cases hfb : frozen ∨ blocked
      · rw [if_pos hfb, hskip.mpr hfb]
        rfl
      · rw [if_neg hfb, Bool.eq_false_iff.mpr fun hs => hfb (hskip.mp hs)]
        rfl
    have hu : d.u = controllerOutput x.governing x.cfg.kp d.error d.iAcc := by
      rw [hd]
      rfl
    refine ⟨?_, by rw [hd]; rfl, by rw [hd]; rfl, herror, hacc, ?_, by rw [hd]; rfl⟩
    · rw [← hsp, hd]
      rfl
    · rw [hu, controllerOutput_eq, herror]
  · have hd : d = ventPass x r := controlPass_of_vent hg r
    rw [ventPass, splitDemand_zero] at hd
    rw [hd]
    refine ⟨congrArg some hsp, ?_, ?_, rfl, rfl, rfl, rfl, rfl, rfl, rfl, rfl, rfl⟩
    · by_cases hheld : held
      · simp [returnValue_none hheld, if_pos hheld]
      · simp [returnValue_some hheld, if_neg hheld, used]
    · by_cases hheld : held
      · simp [returnValue_none hheld, if_pos hheld]
      · simp [returnValue_some hheld, if_neg hheld, source]

end Sys2Proof.Machine
end

section
/-! Passes, OVERLOAD, the hold's end, posts, mode timers and doors keep a station fit (chapters 4 to 6). -/

namespace Sys2Proof.Machine

/-! ## The demand record of a pass -/

theorem returnValue_mem {own : Option Int} {neighbours : List Int} {t : Int} {source : ReturnSource}
    (ho : ∀ t ∈ own, inWorkingRange t) (hn : ∀ t ∈ neighbours, inWorkingRange t)
    (h : returnValue own neighbours = some (t, source)) : inWorkingRange t := by
  have hsum : ∀ ts : List Int, (∀ t ∈ ts, inWorkingRange t) → -640 * (ts.length : Int) ≤ ts.sum ∧ ts.sum ≤ 1360 * ts.length := by
    intro ts
    induction ts with
    | nil => simp
    | cons x xs ih =>
      intro hx
      obtain ⟨h1, h2⟩ := ih fun t ht => hx t (List.mem_cons_of_mem _ ht)
      have hx0 := hx x List.mem_cons_self
      simp only [List.sum_cons, List.length_cons, Nat.cast_add, Nat.cast_one]
      omega
  cases own with
  | some t' =>
    simp only [returnValue, Option.some.injEq, Prod.mk.injEq] at h
    exact h.1 ▸ ho t' rfl
  | none =>
    cases neighbours with
    | nil => cases h
    | cons x xs =>
      simp only [returnValue, Option.some.injEq, Prod.mk.injEq] at h
      obtain ⟨h1, h2⟩ := hsum _ hn
      have hpos : (0 : Int) < ((x :: xs).length : Int) := by simp only [List.length_cons]; omega
      have hlow := Int.tdiv_le_tdiv hpos h1
      have hhigh := Int.tdiv_le_tdiv hpos h2
      rw [Int.mul_tdiv_cancel _ hpos.ne'] at hlow hhigh
      exact h.1 ▸ ⟨hlow, hhigh⟩

/-- What a demand record may hold (R64, R70, R71, R74 to R77). -/
structure DemandRecord.Ready (cfg : Settings) (r : DemandRecord) : Prop where
  spEff : ∀ t ∈ r.spEff, 256 ≤ t ∧ t ≤ 464
  tRet : ∀ t ∈ r.tRet, inWorkingRange t
  error : -1104 ≤ r.error ∧ r.error ≤ 1104
  u : -1000 ≤ r.u ∧ r.u ≤ 1000
  iAcc : -60000 ≤ r.iAcc ∧ r.iAcc ≤ 60000
  heat : (r.heat : Int) = max r.u 0
  cool : (r.cool : Int) = max (-r.u) 0
  coolantTarget : r.coolantTarget ≤ 1000
  stagesWanted : r.stagesWanted ≤ cfg.stages
  dEl : r.dEl = r.stagesWanted * cfg.stagePower
  dC : r.dC = r.cool * cfg.coolRating / 1000

theorem State.demandSound_iff (s : State) :
    s.DemandSound ↔ (s.demand.passTimer.isSome ↔ s.control.state = .running ∨ s.control.state = .test)
      ∧ s.demand.passTimer.within 1000
      ∧ (s.control.state = .starting ∨ s.control.state = .standby → s.demand.record = .zero)
      ∧ s.demand.record.Ready s.cfg := by
  constructor
  · rintro ⟨h1, h2, h3, h4, h5, h6, h7, h8, h9, h10, h11, h12, h13, h14, h15, h16, h17⟩
    exact ⟨h1, h2, h3, h4, h5, ⟨h6, h7⟩, ⟨h8, h9⟩, ⟨h10, h11⟩, h12, h13, h14, h15, h16, h17⟩
  · rintro ⟨h1, h2, h3, h4, h5, ⟨h6, h7⟩, ⟨h8, h9⟩, ⟨h10, h11⟩, h12, h13, h14, h15, h16, h17⟩
    exact ⟨h1, h2, h3, h4, h5, h6, h7, h8, h9, h10, h11, h12, h13, h14, h15, h16, h17⟩

/-- The split of an output in range gives a record in range. -/
theorem splitDemand_ready (cfg : Settings) (coolant : CoolantState) {u : Int} (hu : -1000 ≤ u ∧ u ≤ 1000) {r : DemandRecord}
    (h1 : ∀ t ∈ r.spEff, 256 ≤ t ∧ t ≤ 464) (h2 : ∀ t ∈ r.tRet, inWorkingRange t)
    (h3 : -1104 ≤ r.error ∧ r.error ≤ 1104) (h4 : -60000 ≤ r.iAcc ∧ r.iAcc ≤ 60000) :
    (splitDemand cfg coolant u r).Ready cfg := by
  have hh : u.toNat ≤ 1000 := by omega
  exact ⟨h1, h2, h3, hu, h4, Int.toNat_eq_max u, Int.toNat_eq_max (-u), coolantSplit_le coolant hh,
    stagesSplit_le coolant hh, rfl, rfl⟩

theorem effectiveSetpoint_mem (governing : Mode) (sp offset outside : Int) :
    256 ≤ effectiveSetpoint governing sp offset outside ∧ effectiveSetpoint governing sp offset outside ≤ 464 :=
  clampInt_mem (by decide) _

theorem integrate_mem (skip : Bool) (ki : Nat) (error : Int) {iAcc : Int} (h : -60000 ≤ iAcc ∧ iAcc ≤ 60000) :
    -60000 ≤ integrate skip ki error iAcc ∧ integrate skip ki error iAcc ≤ 60000 := by
  unfold integrate
  split_ifs
  · exact h
  · exact clampInt_mem (by decide) _

/-- The record of a pass stays within its ranges (R61). -/
theorem controlPass_ready {x : PassInputs} {r : DemandRecord} (hr : r.Ready x.cfg)
    (ho : ∀ t ∈ x.ownReturn, inWorkingRange t) (hn : ∀ t ∈ x.neighbours, inWorkingRange t) :
    (controlPass x r).Ready x.cfg := by
  have hsp := effectiveSetpoint_mem x.governing x.setpoint x.cfg.offset x.outside
  by_cases hg : x.governing = .vent
  · rw [controlPass_of_vent hg]
    refine splitDemand_ready _ _ ⟨by decide, by decide⟩ ?_ ?_ (show (-1104 : Int) ≤ 0 ∧ (0 : Int) ≤ 1104 by decide) hr.iAcc
    · rintro t ⟨⟩
      exact hsp
    · dsimp only
      intro t ht
      split at ht
      · next t' source hret =>
        cases ht
        exact returnValue_mem ho hn hret
      · exact hr.tRet t ht
  · rw [controlPass_of_not_vent hg]
    split
    · next t source hret =>
      have ht := returnValue_mem ho hn hret
      have hband : 0 ≤ effectiveDeadBand x.governing x.cfg.deadBand := by
        rw [effectiveDeadBand_eq]
        split_ifs <;> omega
      refine splitDemand_ready _ _ (controllerOutput_mem _ _ _ _) ?_ ?_ ?_ (integrate_mem _ _ _ hr.iAcc)
      · rintro t ⟨⟩
        exact hsp
      · rintro t ⟨⟩
        exact ht
      · dsimp only
        rw [reducedError_eq hband]
        split_ifs <;> omega
    · exact ⟨hr.spEff, hr.tRet, hr.error, hr.u, hr.iAcc, hr.heat, hr.cool, hr.coolantTarget, hr.stagesWanted, hr.dEl,
        hr.dC⟩

/-! ## A control pass -/

/-- A change of the output stage alone. -/
theorem State.Fit.withOutput {s : State} (h : s.Fit) (ha : s.acting = true) {o : Output}
    (ho : State.OutputSound { s with output := o }) : State.Fit { s with output := o } :=
  ⟨h.control, State.waitingSound_of_acting ha, h.sensing, h.link.of_eq rfl rfl rfl, h.peers, h.demand, h.share,
    h.arbiter, ho, h.interlock⟩

/-- Moves of the two valves within their ranges keep the output stage sound, the evaporator valve shut in FROST and both
shut where they must be. -/
theorem State.OutputSound.moveValves {s : State} (h : s.OutputSound) {evap coolant : Nat} (he : evap ≤ 1000)
    (hc : coolant ≤ 1000) (hfrost : s.interlock.frost = .frost → evap = 0)
    (hshut : ¬(s.control.state = .starting ∨ s.control.state = .standby)) :
    State.OutputSound { s with output := { s.output with evapPos := evap, coolantPos := coolant } } := by
  obtain ⟨⟨h1, h2, ⟨h3, -, -, h4⟩, h5, h6, h7, h8, h9, -, -⟩, htaken, hflow⟩ := s.outputSound_iff.mp h
  exact (State.outputSound_iff _).mpr
    ⟨⟨h1, ⟨h2.proof, h2.under, h2.driven, h2.upDelay, h2.downDelay, h2.afterRun⟩, ⟨h3, he, hc, h4⟩, h5, h6, h7, h8, h9,
      hfrost, fun hs => absurd hs hshut⟩, htaken, hflow⟩

theorem Output.passValves_eq (running : Bool) (state : FrostState) (o : Output) :
    o.passValves running state = { o with
      coolantPos := if running then o.coolantTarget else o.coolantPos
      evapPos := match state with | .frost => 0 | .clear => slew 50 o.evapTarget o.evapPos } := by
  unfold Output.passValves Output.moveEvaporator Output.setCoolant
  cases state <;> cases running <;> rfl

theorem State.OutputSound.passValves {s : State} (h : s.OutputSound)
    (hshut : ¬(s.control.state = .starting ∨ s.control.state = .standby)) (running : Bool) :
    State.OutputSound { s with output := s.output.passValves running s.interlock.frost } := by
  have hslew := slew_between 50 s.output.evapTarget s.output.evapPos
  obtain ⟨-, hevap, hcoolant, -⟩ := h.flow
  obtain ⟨-, -, te, tc, -⟩ := h.taken
  obtain ⟨-, hpe, hpc, -⟩ := h.ready.positions
  rw [Output.passValves_eq]
  refine h.moveValves ?_ ?_ (fun hf => by rw [hf]) hshut
  · split
    · exact Nat.zero_le _
    · omega
  · split_ifs
    · exact tc ▸ hcoolant
    · exact hpc

/-- A pass is of a station in RUNNING or TEST. -/
theorem State.Fit.pass {s : State} (h : s.Fit) (ht : s.demand.passTimer.isSome) : s.pass.Fit := by
  have ha : s.acting = true := h.acting_of_demand fun hd => by simp [hd, Demand.initial] at ht
  obtain ⟨hiff, -, -, hready⟩ := s.demandSound_iff.mp h.demand
  have hstate := hiff.mp ht
  have hshut : ¬(s.control.state = .starting ∨ s.control.state = .standby) := by
    rcases hstate with hs | hs <;> simp [hs]
  have hown : ∀ t ∈ s.sensing.ret.usable, inWorkingRange t := fun t => ChannelData.usable_inRange h.sensing.1
  have hnear : ∀ t ∈ adjacentReturns s.own s.peers.table, inWorkingRange t := by
    intro t hmem
    obtain ⟨e, he, hret⟩ := List.mem_filterMap.mp hmem
    obtain ⟨-, hentry, -⟩ := h.peers
    obtain ⟨-, -, -, -, -, -, -, -, -, -, hrange, -⟩ := hentry e (List.mem_filter.mp he).1
    exact hrange t hret
  have hp := h.primed ha
  obtain ⟨o1, o2, o3, o4, o5, o6, o7, o8, o9, o10⟩ := hp.output
  have hprimed : State.Primed { s with
      demand := { passTimer := some Config.passPeriod, record := controlPass s.passInputs s.demand.record } } :=
    ⟨ha, h.control, h.sensing, h.link.of_eq rfl rfl rfl, h.peers,
      (State.demandSound_iff _).mpr ⟨⟨fun _ => hstate, fun _ => rfl⟩, Timer.within_full _, fun hs => absurd hs hshut,
        controlPass_ready (x := s.passInputs) hready hown hnear⟩,
      hp.hold.of_eq rfl rfl rfl rfl, ⟨o1, o2, o3, o4, o5, o6, o7, o8, o9, o10⟩, h.interlock⟩
  have hfit := hprimed.recompute_fit h.arbiter
  exact hfit.withOutput ha (hfit.output.passValves hshut _)

/-! ## OVERLOAD and the hold's end -/

/-- Stages taken off at once, no fewer left than the target, leave an acting station fit. -/
theorem State.Primed.shed_fit {s : State} (h : s.Primed) (hshare : s.ShareSound) (harb : s.ArbiterSound) {n : Nat}
    (hn : n ≤ s.output.stagesOn) (ht : s.stageTarget ≤ n) : (s.shed n).Fit :=
  ⟨h.control, State.waitingSound_of_acting h.acting, h.sensing, h.link.of_eq rfl rfl rfl, h.peers, h.demand, hshare, harb,
    State.shed_sound (c := s.interlock.ceiling) h.output
      (State.flowTargets_inRange h.control.inRange h.demand hshare.aC_le h.output.settings) hn
      (hn.trans h.output.steady.under) ht, h.interlock⟩

/-- A change of the share unit's hold and cap. -/
theorem State.Primed.withHold {s : State} (h : s.Primed) {x : Share} (hx : State.HoldSound { s with share := x }) :
    State.Primed { s with share := x } := by
  obtain ⟨o1, o2, o3, o4, o5, o6, o7, o8, o9, o10⟩ := h.output
  exact ⟨h.acting, h.control, h.sensing, h.link.of_eq rfl rfl rfl, h.peers, h.demand, hx,
    ⟨o1, o2, o3, o4, o5, o6, o7, o8, o9, o10⟩, h.interlock⟩

/-- The allowance formed afresh, not yet handed on. -/
theorem State.Primed.reckon {s : State} (h : s.Primed) : s.reckon.Primed :=
  h.withHold (h.recompute_share.hold.of_eq rfl rfl rfl rfl)

theorem Interlock.effectiveCeiling_le (i : Interlock) : i.effectiveCeiling ≤ i.discharge := by
  unfold Interlock.effectiveCeiling
  split <;> omega

/-- No more stages are on than are fitted, at most 3. -/
theorem State.Primed.stagesOn_le {s : State} (h : s.Primed) : s.output.stagesOn ≤ s.cfg.stages ∧ s.cfg.stages ≤ 3 := by
  have hunder := h.output.steady.under
  obtain ⟨hceiling, hdischarge, -⟩ := h.interlock
  have hle := s.interlock.effectiveCeiling_le
  obtain ⟨-, -, -, hstages, -⟩ := h.control.inRange
  omega

/-- The station as an OVERLOAD leaves it before the output stage acts, and its stage target: below the stages on
(R92, R93). -/
theorem State.Fit.shareAtOverload {s : State} (h : s.Fit) (ha : s.acting = true) :
    s.shareAtOverload.Primed ∧ s.shareAtOverload.ShareSound ∧ s.shareAtOverload.stageTarget ≤ s.output.stagesOn - 1 := by
  have hp := h.primed ha
  have hstages := hp.stagesOn_le
  unfold State.shareAtOverload
  split
  all_goals
    rename_i hs
  case h_3 => exact ⟨hp.reckon, hp.recompute_share, by simp [State.stageTarget, hs]⟩
  case h_4 => exact ⟨hp, h.share, by simp [State.stageTarget, hs]⟩
  all_goals
    have hhold : State.Primed { s with
        share := { s.share with hold := some (Config.overloadHold s.own), cap := s.output.stagesOn - 1 } } :=
      hp.withHold ⟨fun hn => (by cases hn), fun _ => (by simp [hs]), Timer.within_full _, by dsimp only; omega⟩
    refine ⟨hhold.reckon, hhold.recompute_share, ?_⟩
    obtain ⟨-, -, -, -, -, -, -, -, -, -, -, hcap⟩ := allowance_bounds (State.shareInputs { s with
      share := { s.share with hold := some (Config.overloadHold s.own), cap := s.output.stagesOn - 1 } })
    simp only [State.stageTarget, State.reckon_control, hs]
  · exact (Nat.min_le_left _ _).trans (hcap rfl)
  · exact Nat.min_le_left _ _

theorem State.shareAtOverload_frame (s : State) : s.shareAtOverload = { s with share := s.shareAtOverload.share } := by
  unfold State.shareAtOverload
  split <;> rfl

/-- What an OVERLOAD can do, said once (R92, R132). -/
theorem State.overload_cases (s : State) :
    (0 < s.output.stagesOn ∧ s.overload = s.shareAtOverload.shed (s.output.stagesOn - 1))
    ∨ (s.output.stagesOn = 0 ∧ s.overload = s.shareAtOverload.takeTargets) := by
  rcases Nat.eq_zero_or_pos s.output.stagesOn with hz | hpos
  · exact .inr ⟨hz, by simp [State.overload, hz]⟩
  · refine .inl ⟨hpos, ?_⟩
    unfold State.overload State.shed
    rw [if_pos hpos, show s.shareAtOverload.output = s.output by rw [s.shareAtOverload_frame]]
    rfl

theorem State.Fit.overload {s : State} (h : s.Fit) (ha : s.acting = true) : s.overload.Fit := by
  obtain ⟨hp, hshare, htarget⟩ := h.shareAtOverload ha
  have harb : s.shareAtOverload.ArbiterSound := by
    rw [s.shareAtOverload_frame]
    exact h.arbiter
  have hout : s.shareAtOverload.output = s.output := by rw [s.shareAtOverload_frame]
  obtain ⟨-, he⟩ | ⟨-, he⟩ := s.overload_cases <;> rw [he]
  · exact hp.shed_fit hshare harb (by rw [hout]; exact Nat.sub_le _ _) htarget
  · exact hp.takeTargets_fit hshare harb

theorem State.Fit.endHold {s : State} (h : s.Fit) (ha : s.acting = true) : s.endHold.Fit := by
  have hhold : State.Primed { s with share := { s.share with hold := none, cap := 0 } } :=
    (h.primed ha).withHold ⟨fun _ => rfl, fun hs => (by cases hs), Timer.within_none _, Nat.zero_le _⟩
  exact hhold.recompute_fit h.arbiter

/-! ## Posts and mode timers -/

theorem postMode_ne (c : PostCondition) : postMode c ≠ .auto ∧ postMode c ≠ .door := by cases c <;> decide

theorem timedMode_ne (m : TimedMode) : timedMode m ≠ .auto ∧ timedMode m ≠ .door := by cases m <;> decide

theorem State.Fit.post {s : State} (h : s.Fit) (ha : s.acting = true) (source : Nat) (condition : PostCondition)
    (action : PostAction) (target : Nat) : (s.post source condition action target).Fit := by
  unfold State.post
  split_ifs
  · refine h.arbitrate ha ?_
    cases action with
    | raise =>
      simp only [Arbiter.post]
      split_ifs with hr
      · exact h.arbiter.raise (postMode_ne condition).1 (by simpa [State.isRunning] using hr)
      · exact h.arbiter
    | finish => exact h.arbiter.finish (postMode_ne condition).2
  · exact h

theorem State.Fit.acting_of_timer {s : State} (h : s.Fit) {m : TimedMode} (ht : (s.arbiter.timer m).isSome) :
    s.acting = true := by
  refine h.acting_of_arbiter fun ha => ?_
  rw [ha] at ht
  cases m <;> cases ht

/-! ## The door -/

/-- The own door condition and the dwell written as the input allows them. -/
theorem State.ArbiterReady.setDoor {s : State} (h : s.ArbiterReady) {p : Pins} {own : Bool} {dwell : Timer}
    (hd : dwell.within 1000) (ho : own = true → s.cfg.doorZone = true ∧ p.doorOpen = true)
    (hdw : dwell.isSome → s.cfg.doorZone = true ∧ p.doorOpen = true) :
    State.ArbiterReady { s with pins := p, arbiter := { s.arbiter with ownDoor := own, dwell := dwell } } := by
  obtain ⟨hl, htaken⟩ := s.arbiter.sound_iff.mp h.sound
  exact ⟨(Arbiter.sound_iff _).mpr ⟨⟨hl.depth, hl.levels, hl.bottom, hl.last, hl.apart, hl.inForce, hl.timed, hl.lengths, hd,
    hl.tail, hl.tailed⟩, htaken⟩, h.cleared, h.raised, ho, hdw⟩

/-- The door input at a level that the door's part of the arbiter allows. -/
theorem State.Fit.setDoor {s : State} (h : s.Fit) {b : Bool}
    (hb : b = false → s.arbiter.ownDoor = false ∧ s.arbiter.dwell = none) : (s.setDoor b).Fit := by
  obtain ⟨⟨a1, a2, a3, a4, a5⟩, a6⟩ := s.arbiterSound_iff.mp h.arbiter
  refine ⟨h.control, h.waiting, h.sensing, h.link.of_eq rfl rfl rfl, h.peers, h.demand, h.share,
    (State.arbiterSound_iff _).mpr ⟨⟨a1, a2, a3, fun ho => ?_, fun hd => ?_⟩, a6⟩, h.output, h.interlock⟩
  · cases b with
    | true => exact ⟨(a4 ho).1, rfl⟩
    | false =>
      change s.arbiter.ownDoor = true at ho
      simp [(hb rfl).1] at ho
  · cases b with
    | true => exact ⟨(a5 hd).1, rfl⟩
    | false =>
      change s.arbiter.dwell.isSome at hd
      simp [(hb rfl).2] at hd

theorem State.Primed.setDoor {s : State} (h : s.Primed) (b : Bool) : (s.setDoor b).Primed := by
  obtain ⟨o1, o2, o3, o4, o5, o6, o7, o8, o9, o10⟩ := h.output
  exact ⟨h.acting, h.control, h.sensing, h.link.of_eq rfl rfl rfl, h.peers, h.demand, h.hold.of_eq rfl rfl rfl rfl,
    ⟨o1, o2, o3, o4, o5, o6, o7, o8, o9, o10⟩, h.interlock⟩

/-- Outside a door zone the own condition and the dwell rest (R101). -/
theorem State.ArbiterReady.resting {s : State} (h : s.ArbiterReady) (hz : s.cfg.doorZone ≠ true) :
    s.arbiter.ownDoor = false ∧ s.arbiter.dwell = none := by
  refine ⟨Bool.eq_false_iff.mpr fun ho => hz (h.ownDoor ho).1, ?_⟩
  cases hd : s.arbiter.dwell with
  | none => rfl
  | some left => exact absurd (h.dwell (by simp [hd])).1 hz

theorem State.Fit.doorOpens {s : State} (h : s.Fit) (ha : s.acting = true) (hpin : s.pins.doorOpen = true) :
    s.doorOpens.Fit := by
  unfold State.doorOpens
  split_ifs with hz
  · obtain ⟨hr, hcause⟩ := s.arbiterSound_iff.mp h.arbiter
    exact ⟨h.control, State.waitingSound_of_acting ha, h.sensing, h.link.of_eq rfl rfl rfl, h.peers, h.demand, h.share,
      (State.arbiterSound_iff _).mpr ⟨hr.setDoor (p := s.pins) (Timer.within_full _) hr.ownDoor fun _ => ⟨hz, hpin⟩, hcause⟩,
      h.output.withArbiter rfl, h.interlock⟩
  · exact h

/-- The own condition written and the cause judged. -/
theorem State.Fit.judgeOwnDoor {s : State} (h : s.Fit) (ha : s.acting = true) {b own : Bool}
    (ho : own = true → s.cfg.doorZone = true ∧ b = true) :
    (State.judgeDoor { s.setDoor b with arbiter := { s.arbiter with ownDoor := own, dwell := none } }).Fit := by
  have hout : (s.setDoor b).OutputSound := h.output
  exact (((h.primed ha).setDoor b).withArbiter _).judgeDoor_fit h.share (hout.withArbiter rfl)
    (h.arbiter.ready.setDoor (Timer.within_none _) ho fun hd => by cases hd)

theorem State.Fit.doorCloses {s : State} (h : s.Fit) (ha : s.acting = true) : (s.setDoor false).doorCloses.Fit := by
  unfold State.doorCloses
  split_ifs with hz
  · exact h.judgeOwnDoor ha fun ho => by cases ho
  · exact h.setDoor fun _ => h.arbiter.ready.resting hz

theorem State.Fit.endDwell {s : State} (h : s.Fit) (ht : s.arbiter.dwell.isSome) : s.endDwell.Fit := by
  have ha : s.acting = true := h.acting_of_arbiter fun ha => by simp [ha, Arbiter.initial] at ht
  exact h.judgeOwnDoor (b := s.pins.doorOpen) ha fun _ => h.arbiter.ready.dwell ht

theorem State.Fit.endTail {s : State} (h : s.Fit) (ht : s.arbiter.tail.isSome) :
    (s.arbitrate fun a => { a with tail := none }.finish .door).Fit :=
  h.arbitrate (h.acting_of_arbiter fun ha => by simp [ha, Arbiter.initial] at ht) (h.arbiter.endTail ht)

end Sys2Proof.Machine
end

section
/-! The protective machines, the samples and the output stage's own events keep a station fit (chapters 1, 7 and 8). -/

namespace Sys2Proof.Machine

/-! ## The machines of the interlock unit, apart -/

/-- The TRIP machine (R150 to R152). -/
structure Interlock.TripReady (i : Interlock) : Prop where
  trips : i.tripList.length ≤ 3
  unlocked : i.trip ≠ .locked → i.tripList.length ≤ 2
  ordered : i.tripList.Pairwise (· ≥ ·)
  remembered : ∀ age ∈ i.tripList, age ≤ 1800000
  openDwell : i.openDwell.isSome → i.trip = .normal ∨ i.trip = .cooldown
  openLength : i.openDwell.within 100
  cooldown : i.cooldown.isSome ↔ i.trip = .cooldown
  cooldownLength : i.cooldown.within 60000

/-- The FROST machine (R155). -/
structure Interlock.FrostReady (i : Interlock) : Prop where
  coldDwell : i.coldDwell.isSome → i.frost = .clear
  coldLength : i.coldDwell.within 10000
  warmDwell : i.warmDwell.isSome → i.frost = .frost
  warmLength : i.warmDwell.within 60000

/-- The SUPPLY machine (R158). -/
structure Interlock.SupplyReady (i : Interlock) : Prop where
  lowDwell : i.lowDwell.isSome → i.supply = .normal
  lowLength : i.lowDwell.within 2000
  recovery : i.recovery.isSome → i.supply = .low
  recoveryLength : i.recovery.within 10000

/-- The DISCHARGE ceiling (R159 to R161). -/
structure Interlock.DischargeReady (stages : Nat) (i : Interlock) : Prop where
  discharge : i.discharge ≤ stages
  drop : i.drop.isSome → i.rise = none
  dropLength : i.drop.within 10000
  rise : i.rise.isSome → i.discharge < stages
  riseLength : i.rise.within 30000

section
variable {stages : Nat} {i : Interlock}

theorem Interlock.Ready.trip (h : i.Ready stages) : i.TripReady :=
  ⟨h.trips, h.unlocked, h.ordered, h.remembered, h.openDwell, h.openLength, h.cooldown, h.cooldownLength⟩

theorem Interlock.Ready.frost (h : i.Ready stages) : i.FrostReady :=
  ⟨h.coldDwell, h.coldLength, h.warmDwell, h.warmLength⟩

theorem Interlock.Ready.supply (h : i.Ready stages) : i.SupplyReady :=
  ⟨h.lowDwell, h.lowLength, h.recovery, h.recoveryLength⟩

theorem Interlock.Ready.ceilingPart (h : i.Ready stages) : i.DischargeReady stages :=
  ⟨h.discharge, h.drop, h.dropLength, h.rise, h.riseLength⟩

theorem Interlock.Ready.of_parts (h1 : i.TripReady) (h2 : i.FrostReady) (h3 : i.SupplyReady) (h4 : i.DischargeReady stages) :
    i.Ready stages :=
  ⟨h4.discharge, h1.trips, h1.unlocked, h1.ordered, h1.remembered, h1.openDwell, h1.openLength, h1.cooldown,
    h1.cooldownLength, h2.coldDwell, h2.coldLength, h2.warmDwell, h2.warmLength, h3.lowDwell, h3.lowLength, h3.recovery,
    h3.recoveryLength, h4.drop, h4.dropLength, h4.rise, h4.riseLength⟩

/-! ## Changes of one machine -/

theorem Interlock.Ready.withTrip (h : i.Ready stages) {trip : TripState} {openDwell cooldown : Timer} {tripList : List Nat}
    (ht : Interlock.TripReady { i with trip := trip, openDwell := openDwell, cooldown := cooldown, tripList := tripList }) :
    Interlock.Ready stages
      { i with trip := trip, openDwell := openDwell, cooldown := cooldown, tripList := tripList } :=
  .of_parts ht ⟨h.coldDwell, h.coldLength, h.warmDwell, h.warmLength⟩
    ⟨h.lowDwell, h.lowLength, h.recovery, h.recoveryLength⟩
    ⟨h.discharge, h.drop, h.dropLength, h.rise, h.riseLength⟩

theorem Interlock.Ready.withFrost (h : i.Ready stages) {state : FrostState} {cold warm : Timer}
    (hc : cold.isSome → state = .clear) (hcl : cold.within 10000) (hw : warm.isSome → state = .frost)
    (hwl : warm.within 60000) :
    Interlock.Ready stages { i with frost := state, coldDwell := cold, warmDwell := warm } :=
  .of_parts ⟨h.trips, h.unlocked, h.ordered, h.remembered, h.openDwell, h.openLength, h.cooldown, h.cooldownLength⟩
    ⟨hc, hcl, hw, hwl⟩ ⟨h.lowDwell, h.lowLength, h.recovery, h.recoveryLength⟩
    ⟨h.discharge, h.drop, h.dropLength, h.rise, h.riseLength⟩

theorem Interlock.Ready.withSupply (h : i.Ready stages) {supply : SupplyState} {low recovery : Timer}
    (hl : low.isSome → supply = .normal) (hll : low.within 2000) (hr : recovery.isSome → supply = .low)
    (hrl : recovery.within 10000) :
    Interlock.Ready stages { i with supply := supply, lowDwell := low, recovery := recovery } :=
  .of_parts ⟨h.trips, h.unlocked, h.ordered, h.remembered, h.openDwell, h.openLength, h.cooldown, h.cooldownLength⟩
    ⟨h.coldDwell, h.coldLength, h.warmDwell, h.warmLength⟩ ⟨hl, hll, hr, hrl⟩
    ⟨h.discharge, h.drop, h.dropLength, h.rise, h.riseLength⟩

theorem Interlock.Ready.withDischarge (h : i.Ready stages) {discharge : Nat} {drop rise : Timer} (hd : discharge ≤ stages)
    (hdr : drop.isSome → rise = none) (hdl : drop.within 10000) (hr : rise.isSome → discharge < stages)
    (hrl : rise.within 30000) :
    Interlock.Ready stages { i with discharge := discharge, drop := drop, rise := rise } :=
  .of_parts ⟨h.trips, h.unlocked, h.ordered, h.remembered, h.openDwell, h.openLength, h.cooldown, h.cooldownLength⟩
    ⟨h.coldDwell, h.coldLength, h.warmDwell, h.warmLength⟩ ⟨h.lowDwell, h.lowLength, h.recovery, h.recoveryLength⟩
    ⟨hd, hdr, hdl, hr, hrl⟩

theorem Timer.ensure_within {most : Nat} {t : Timer} (h : t.within most) : (Timer.ensure most t).within most := by
  cases t with
  | none => exact Timer.within_full most
  | some left => exact h

theorem Timer.ensure_eq (ms : Nat) (t : Timer) : Timer.ensure ms t = some (t.getD ms) := by cases t <;> rfl

/-! ## The TRIP machine -/

theorem Interlock.contactOpens_eq (i : Interlock) :
    i.contactOpens =
      { i with openDwell := if i.trip = .normal ∨ i.trip = .cooldown then some 100 else i.openDwell } := by
  unfold Interlock.contactOpens
  split
  · next ht => simp [ht, Config.openDwell]
  · next ht => simp [ht, Config.openDwell]
  · next ht => rw [if_neg (by simp [ht])]
  · next ht => rw [if_neg (by simp [ht])]

theorem Interlock.Ready.contactOpens (h : i.Ready stages) : i.contactOpens.Ready stages := by
  rw [Interlock.contactOpens_eq]
  refine h.withTrip ⟨h.trips, h.unlocked, h.ordered, h.remembered, fun hs => ?_, ?_, h.cooldown, h.cooldownLength⟩
  · dsimp only at hs ⊢
    split_ifs at hs with hw
    · exact hw
    · exact h.openDwell hs
  · dsimp only
    split_ifs
    · exact Timer.within_full 100
    · exact h.openLength

/-- A closing stops the dwell, and lifts TRIPPED into the cooldown (R150, R151); in a sound unit no dwell runs in TRIPPED
or LOCKED. -/
theorem Interlock.Ready.contactCloses_eq (h : i.Ready stages) :
    i.contactCloses = { i with
      openDwell := none, trip := if i.trip = .tripped then .cooldown else i.trip
      cooldown := if i.trip = .tripped then some 60000 else i.cooldown } := by
  have hnone : ¬(i.trip = .normal ∨ i.trip = .cooldown) → i.openDwell = none := by
    intro hn
    cases hd : i.openDwell with
    | none => rfl
    | some left => exact absurd (h.openDwell (by simp [hd])) hn
  unfold Interlock.contactCloses
  split
  · simp [*]
  · simp [*]
  · next ht => simp [ht, hnone, Config.cooldown]
  · next ht =>
    have hd := hnone (by simp [ht])
    obtain ⟨trip, openDwell⟩ := i
    simp only at ht hd
    subst ht hd
    rfl

theorem Interlock.Ready.contactCloses (h : i.Ready stages) : i.contactCloses.Ready stages := by
  rw [h.contactCloses_eq]
  refine h.withTrip ⟨h.trips, fun hn => h.unlocked fun hl => ?_, h.ordered, h.remembered, fun hs => (by cases hs),
    Timer.within_none _, ?_, ?_⟩
  · simp [hl] at hn
  · dsimp only
    split_ifs with ht
    · simp
    · exact h.cooldown
  · dsimp only
    split_ifs
    · exact Timer.within_full 60000
    · exact h.cooldownLength

/-- A trip puts the unit in TRIPPED, or in LOCKED where it is the third of the list (R151, R152). -/
theorem Interlock.Ready.trips' (h : i.Ready stages) (hd : i.openDwell.isSome) : i.trips.Ready stages := by
  have hlen : i.tripList.length ≤ 2 := h.unlocked fun hl => by rcases h.openDwell hd with ht | ht <;> simp [ht] at hl
  refine h.withTrip ⟨?_, fun hn => ?_, ?_, ?_, fun hs => (by cases hs), Timer.within_none _, ?_, Timer.within_none _⟩
  · simp only [List.length_append, List.length_singleton]
    omega
  · dsimp only at hn ⊢
    split_ifs at hn with hlt
    · simp only [List.length_append, List.length_singleton]
      omega
    · exact absurd rfl hn
  · refine List.pairwise_append.mpr ⟨h.ordered, List.pairwise_singleton _ _, fun a _ b hb => ?_⟩
    obtain rfl := List.mem_singleton.mp hb
    exact Nat.zero_le a
  · intro age hage
    rcases List.mem_append.mp hage with hage | hage
    · exact h.remembered age hage
    · obtain rfl := List.mem_singleton.mp hage
      exact Nat.zero_le _
  · dsimp only
    split_ifs <;> simp

theorem Interlock.Ready.cooldownEnds (h : i.Ready stages) (hc : i.cooldown.isSome) : i.cooldownEnds.Ready stages := by
  have hlen : i.tripList.length ≤ 2 := h.unlocked fun hl => by rw [h.cooldown.mp hc] at hl; cases hl
  exact h.withTrip ⟨h.trips, fun _ => hlen, h.ordered, h.remembered, fun _ => .inl rfl, h.openLength, by simp,
    Timer.within_none _⟩

/-- The oldest trip leaves the list (R152). -/
theorem Interlock.Ready.agesOut (h : i.Ready stages) : Interlock.Ready stages { i with tripList := i.tripList.tail } := by
  have hlen : i.tripList.tail.length ≤ i.tripList.length := by simp
  exact h.withTrip ⟨hlen.trans h.trips, fun hn => hlen.trans (h.unlocked hn), h.ordered.tail,
    fun age hage => h.remembered age (List.mem_of_mem_tail hage), h.openDwell, h.openLength, h.cooldown, h.cooldownLength⟩

theorem Interlock.Ready.clearLock (h : i.Ready stages) (hl : i.trip = .locked) (contactOpen : Bool) :
    (i.clearLock contactOpen).Ready stages := by
  have hc : i.cooldown = none := by
    cases hc : i.cooldown with
    | none => rfl
    | some left =>
      have := h.cooldown.mp (by simp [hc])
      rw [hl] at this
      cases this
  refine h.withTrip ⟨Nat.zero_le _, fun _ => Nat.zero_le _, List.Pairwise.nil, fun age hage => (by cases hage),
    fun _ => .inl rfl, ?_, by simp [hc], h.cooldownLength⟩
  dsimp only
  split_ifs
  · exact Timer.within_full 100
  · exact Timer.within_none _

/-! ## The FROST machine -/

/-- The entry to FROST, and the exit from it (R155): each stops its dwell; the other does not run. -/
theorem Interlock.Ready.frosts (h : i.Ready stages) : i.frosts.Ready stages :=
  h.withFrost (fun hs => by cases hs) (Timer.within_none _) (fun _ => rfl) h.warmLength

theorem Interlock.Ready.clears (h : i.Ready stages) : i.clears.Ready stages :=
  h.withFrost (fun _ => rfl) h.coldLength (fun hs => by cases hs) (Timer.within_none _)

theorem Interlock.Ready.coilInClear (h : i.Ready stages) (hf : i.frost = .clear) (usable : Option Int) :
    (i.coilInClear usable).Ready stages := by
  unfold Interlock.coilInClear
  split
  · split_ifs
    · exact h.withFrost (fun _ => hf) (Timer.ensure_within h.coldLength) h.warmDwell h.warmLength
    · exact h.withFrost (fun hs => by cases hs) (Timer.within_none _) h.warmDwell h.warmLength
  · exact h.withFrost (fun hs => by cases hs) (Timer.within_none _) h.warmDwell h.warmLength

theorem Interlock.Ready.coilInFrost (h : i.Ready stages) (hf : i.frost = .frost) (usable : Option Int) :
    (i.coilInFrost usable).Ready stages := by
  unfold Interlock.coilInFrost
  split
  · split_ifs
    · exact h.withFrost h.coldDwell h.coldLength (fun _ => hf) (Timer.ensure_within h.warmLength)
    · exact h.withFrost h.coldDwell h.coldLength (fun hs => by cases hs) (Timer.within_none _)
  · exact h.withFrost h.coldDwell h.coldLength (fun hs => by cases hs) (Timer.within_none _)

theorem Interlock.Ready.judgeCoil (h : i.Ready stages) (c : ChannelData) : (i.judgeCoil c).Ready stages := by
  unfold Interlock.judgeCoil
  split
  · next hf =>
    split_ifs
    · exact h.frosts
    · exact h.coilInClear hf _
  · next hf => exact h.coilInFrost hf _

/-- A COIL sample moves the FROST machine alone (R155). -/
theorem Interlock.judgeCoil_frame (c : ChannelData) (i : Interlock) :
    i.judgeCoil c = { i with
      frost := (i.judgeCoil c).frost, coldDwell := (i.judgeCoil c).coldDwell, warmDwell := (i.judgeCoil c).warmDwell } := by
  unfold Interlock.judgeCoil Interlock.frosts Interlock.coilInClear Interlock.coilInFrost
  (repeat' split) <;> rfl

/-! ## The SUPPLY machine -/

theorem Interlock.Ready.judgeSupply (h : i.Ready stages) (cfg : Settings) (value : Nat) :
    (i.judgeSupply cfg value).Ready stages := by
  unfold Interlock.judgeSupply
  split
  · next hs =>
    split_ifs
    · exact h.withSupply (fun _ => hs) (Timer.ensure_within h.lowLength) h.recovery h.recoveryLength
    · exact h.withSupply (fun hs => by cases hs) (Timer.within_none _) h.recovery h.recoveryLength
  · next hs =>
    split_ifs
    · exact h.withSupply h.lowDwell h.lowLength (fun _ => hs) (Timer.ensure_within h.recoveryLength)
    · exact h.withSupply h.lowDwell h.lowLength (fun hs => by cases hs) (Timer.within_none _)

/-- A SUPPLY sample moves the dwells of the SUPPLY machine alone (R158). -/
theorem Interlock.judgeSupply_frame (cfg : Settings) (value : Nat) (i : Interlock) :
    i.judgeSupply cfg value = { i with
      lowDwell := (i.judgeSupply cfg value).lowDwell, recovery := (i.judgeSupply cfg value).recovery } := by
  unfold Interlock.judgeSupply
  (repeat' split) <;> rfl

theorem Interlock.Ready.entersLow (h : i.Ready stages) (hl : i.lowDwell.isSome) :
    Interlock.Ready stages { i with supply := .low, lowDwell := none } := by
  have hr : i.recovery = none := by
    cases hr : i.recovery with
    | none => rfl
    | some left =>
      have := h.recovery (by simp [hr])
      rw [h.lowDwell hl] at this
      cases this
  exact h.withSupply (fun hs => by cases hs) (Timer.within_none _) (fun _ => rfl) (hr ▸ Timer.within_none _)

theorem Interlock.Ready.recovers (h : i.Ready stages) :
    Interlock.Ready stages { i with supply := .normal, recovery := none } :=
  h.withSupply (fun _ => rfl) h.lowLength (fun hs => by cases hs) (Timer.within_none _)

/-! ## The DISCHARGE ceiling -/

theorem Interlock.Ready.judgeDischarge (h : i.Ready stages) (c : ChannelData) :
    (i.judgeDischarge stages c).Ready stages := by
  have hbetween : i.dischargeBetween.Ready stages :=
    h.withDischarge h.discharge (fun _ => rfl) (Timer.within_none _) (fun hs => by cases hs) (Timer.within_none _)
  unfold Interlock.judgeDischarge
  split_ifs
  · exact h.withDischarge (Nat.min_le_right _ _) (fun _ => rfl) (Timer.within_none _) (fun hs => by cases hs)
      (Timer.within_none _)
  · split
    · exact hbetween
    · split_ifs
      · unfold Interlock.dischargeHot
        split
        · next hdrop =>
          exact h.withDischarge h.discharge (fun _ => rfl) (hdrop ▸ h.dropLength) (fun hs => by cases hs)
            (Timer.within_none _)
        · exact h.withDischarge ((Nat.sub_le _ _).trans h.discharge) (fun _ => rfl) (Timer.within_full _)
            (fun hs => by cases hs) (Timer.within_none _)
      · unfold Interlock.dischargeCool
        split_ifs with hlt
        · exact h.withDischarge h.discharge (fun hs => by cases hs) (Timer.within_none _) (fun _ => hlt)
            (Timer.ensure_within h.riseLength)
        · exact h.withDischarge h.discharge (fun hs => by cases hs) (Timer.within_none _) h.rise h.riseLength
      · exact hbetween

/-- A DISCHARGE sample moves the DISCHARGE ceiling and its timers alone (R159, R160). -/
theorem Interlock.judgeDischarge_frame (n : Nat) (c : ChannelData) (i : Interlock) :
    i.judgeDischarge n c = { i with
      discharge := (i.judgeDischarge n c).discharge, drop := (i.judgeDischarge n c).drop
      rise := (i.judgeDischarge n c).rise } := by
  unfold Interlock.judgeDischarge Interlock.dischargeFault Interlock.dischargeBetween Interlock.dischargeHot
    Interlock.dischargeCool
  (repeat' split) <;> rfl

theorem Interlock.Ready.drops (h : i.Ready stages) (hd : i.drop.isSome) : i.drops.Ready stages :=
  h.withDischarge ((Nat.sub_le _ _).trans h.discharge) (fun _ => h.drop hd) (Timer.within_full _)
    (fun hs => by simp [h.drop hd] at hs) h.riseLength

theorem Interlock.Ready.rises (h : i.Ready stages) (hr : i.rise.isSome) : (i.rises stages).Ready stages := by
  have hlt := h.rise hr
  have hdrop : i.drop = none := by
    cases hd : i.drop with
    | none => rfl
    | some left => simp [h.drop (by simp [hd])] at hr
  refine h.withDischarge hlt (fun hs => by simp [hdrop] at hs) h.dropLength (fun hs => ?_) ?_
  · split_ifs at hs with hlt'
    · exact hlt'
    · cases hs
  · split_ifs
    · exact Timer.within_full _
    · exact Timer.within_none _

end

/-! ## The samples -/

theorem State.SensingSound.channel {s : State} (h : s.SensingSound) (ch : Channel) : (s.sensing.channel ch).sound = true := by
  obtain ⟨h1, h2, h3, h4, -⟩ := h
  cases ch
  · exact h1
  · exact h2
  · exact h3
  · exact h4

theorem sampleTemperature_mem (trim : Int) (code : Nat) : inWorkingRange (sampleTemperature trim code) :=
  clampInt_mem (by decide) _

/-- A filter step ends between the value and the sample (R5). -/
theorem filtered_mem {old : Option Int} {t : Int} (ho : ∀ v ∈ old, inWorkingRange v) (ht : inWorkingRange t) :
    inWorkingRange (filtered old t) := by
  cases old with
  | none => exact ht
  | some v =>
    have hv := ho v rfl
    simp only [filtered, filterStep, inWorkingRange] at *
    rcases lt_trichotomy (t - v) 0 with hg | hg | hg
    · rw [Int.sign_eq_neg_one_of_neg hg, Int.tdiv_eq_ediv, show Int.sign 8 = 1 from rfl]
      split_ifs <;> omega
    · simp [hg]
      omega
    · rw [Int.sign_eq_one_of_pos hg, Int.tdiv_eq_ediv_of_nonneg hg.le]
      split_ifs <;> omega

theorem badKind_ne_none {code : Nat} {kind : FaultKind} (h : badKind code = some kind) : kind ≠ .none := by
  rintro rfl
  unfold badKind at h
  split_ifs at h <;> cases h

/-- A sample keeps its channel sound (R7, R8). -/
theorem sampleChannel_sound {c : ChannelData} (h : c.sound = true) (trim : Int) (code : Nat) :
    (sampleChannel trim code c).sound = true := by
  obtain ⟨h1, h2, h3, h4, h5⟩ := c.sound_iff.mp h
  rw [ChannelData.sound_iff]
  unfold sampleChannel
  split
  · next hs =>
    unfold sampleInGood
    split
    · exact ⟨Nat.succ_pos 4, h2, h3, fun hf => (by rw [hs] at hf; cases hf),
        by rintro t ⟨⟩; exact filtered_mem h5 (sampleTemperature_mem _ _)⟩
    · next kind hk =>
      split_ifs with hlt
      · exact ⟨hlt, h2, h3, fun hf => (by rw [hs] at hf; cases hf), h5⟩
      · refine ⟨Nat.succ_pos 4, Nat.succ_pos 19, fun hf => (by cases hf), fun _ => ⟨rfl, ?_⟩, h5⟩
        exact badKind_ne_none hk
  · next hs =>
    unfold sampleInFault
    split
    · next kind hk =>
      refine ⟨h1, Nat.succ_pos 19, fun hf => (by rw [hs] at hf; cases hf), fun _ => ⟨(h4 hs).1, ?_⟩, h5⟩
      exact badKind_ne_none hk
    · split_ifs with hlt
      · exact ⟨h1, hlt, fun hf => (by rw [hs] at hf; cases hf), h4, h5⟩
      · exact ⟨Nat.succ_pos 4, Nat.succ_pos 19, fun _ => ⟨rfl, rfl⟩, fun hf => (by cases hf),
          by rintro t ⟨⟩; exact sampleTemperature_mem _ _⟩

/-- A sample taken leaves the other blocks (R4, R7, R8, R11). -/
theorem State.takeSample_frame (ch : Channel) (code : Nat) (s : State) :
    s.takeSample ch code = { s with sensing := (s.takeSample ch code).sensing } := by
  unfold State.takeSample
  split_ifs <;> rfl

theorem State.SensingSound.takeSample {s : State} (h : s.SensingSound) (ch : Channel) (code : Nat) :
    (s.takeSample ch code).SensingSound := by
  have hc := sampleChannel_sound (h.channel ch) (trimOf s.cfg ch) code
  unfold State.takeSample
  split_ifs with hp
  · obtain ⟨h1, h2, h3, h4, h5, h6, h7, h8⟩ := h
    cases ch with
    | ret => exact ⟨hc, h2, h3, h4, h5, h6, h7, h8⟩
    | discharge => exact ⟨h1, hc, h3, h4, h5, h6, h7, h8⟩
    | coil => exact ⟨h1, h2, hc, h4, h5, h6, h7, h8⟩
    | fresh => exact ⟨h1, h2, h3, hc, h5, h6, fun hf => absurd (hp.symm.trans hf) (by decide), h8⟩
  · exact h

/-- A change of the sensing unit alone leaves an acting station fit. -/
theorem State.Fit.withSensing {s : State} (h : s.Fit) (ha : s.acting = true) {x : Sensing}
    (hx : State.SensingSound { s with sensing := x }) : State.Fit { s with sensing := x } :=
  ⟨h.control, State.waitingSound_of_acting ha, hx, h.link.of_eq rfl rfl rfl, h.peers, h.demand, h.share, h.arbiter,
    h.output, h.interlock⟩

/-- A change of the interlock unit that hands nothing on. -/
theorem State.Fit.withInterlock {s : State} (h : s.Fit) (ha : s.acting = true) {i : Interlock} (hi : i.Ready s.cfg.stages)
    (hc : i.ceiling = s.interlock.ceiling) (he : i.effectiveCeiling = s.interlock.effectiveCeiling)
    (hf : i.frost = s.interlock.frost) : State.Fit { s with interlock := i } := by
  have hshare : State.ShareSound { s with interlock := i } := by
    have hs := h.share
    simp only [State.ShareSound, hf] at hs ⊢
    exact hs
  exact ⟨h.control, State.waitingSound_of_acting ha, h.sensing, h.link.of_eq rfl rfl rfl, h.peers, h.demand, hshare, h.arbiter,
    h.output.withInterlock hc hf, (State.interlockSound_iff _).mpr ⟨by rw [hc, h.interlock.ceiling, he], hi⟩⟩

theorem State.Fit.judgeFrost {s : State} (h : s.Fit) (ha : s.acting = true) : s.judgeFrost.Fit := by
  have hi := h.interlock.ready.judgeCoil s.sensing.coil
  have hframe := s.interlock.judgeCoil_frame s.sensing.coil
  have hc : (s.interlock.judgeCoil s.sensing.coil).ceiling = s.interlock.ceiling := by rw [hframe]
  have he : (s.interlock.judgeCoil s.sensing.coil).effectiveCeiling = s.interlock.effectiveCeiling := by
    rw [hframe]
    rfl
  unfold State.judgeFrost
  dsimp only
  split_ifs with hf
  · exact h.withInterlock ha hi hc he hf
  · exact h.handFrost ha hi hc he

theorem State.Fit.sample {s : State} (h : s.Fit) (ha : s.acting = true) (ch : Channel) (code : Nat) :
    ((s.takeSample ch code).afterSample ch).Fit := by
  have hx : State.SensingSound { s with sensing := (s.takeSample ch code).sensing } := by
    rw [← s.takeSample_frame ch code]
    exact h.sensing.takeSample ch code
  have hfit := h.withSensing ha hx
  rw [s.takeSample_frame ch code]
  cases ch with
  | ret => exact hfit
  | discharge =>
    refine hfit.protect_acting ha (hfit.interlock.ready.judgeDischarge _) ?_ ?_
    all_goals rw [Interlock.judgeDischarge_frame]
  | coil => exact hfit.judgeFrost ha
  | fresh =>
    exact ⟨hfit.control, State.waitingSound_of_acting ha, hfit.sensing.select hfit.peers, hfit.link.of_eq rfl rfl rfl, hfit.peers, hfit.demand,
      hfit.share, hfit.arbiter, hfit.output, hfit.interlock⟩

theorem supplyValue_le (code : Fin 1024) : supplyValue code.val ≤ 400 := by
  have := code.isLt
  unfold supplyValue
  omega

theorem State.Fit.supplySample {s : State} (h : s.Fit) (ha : s.acting = true) (code : Fin 1024) :
    State.Fit { s with
      sensing := { s.sensing with supply := some (supplyValue code.val) }
      interlock := s.interlock.judgeSupply s.cfg (supplyValue code.val) } := by
  have hx : State.SensingSound { s with sensing := { s.sensing with supply := some (supplyValue code.val) } } := by
    obtain ⟨h1, h2, h3, h4, -, h6⟩ := h.sensing
    exact ⟨h1, h2, h3, h4, by rintro v ⟨⟩; exact supplyValue_le code, h6⟩
  have hframe := s.interlock.judgeSupply_frame s.cfg (supplyValue code.val)
  refine (h.withSensing ha hx).withInterlock ha (h.interlock.ready.judgeSupply _ _) ?_ ?_ ?_
  all_goals rw [hframe]
  rfl

/-! ## The output stage's own events -/

/-- A change of stages and delays that takes no target keeps the output stage sound where it keeps the stages under the
ceiling and the sequencer true to them. -/
theorem State.OutputSound.keeps {s : State} (h : s.OutputSound) {o : Output} (hkeeps : s.output.KeepsPositions o)
    (hseq : o.SequencerSound) (hsteady : o.Steady s.cfg s.own s.interlock.ceiling)
    (ht : o = { o with
      stageTarget := s.output.stageTarget, fanTarget := s.output.fanTarget, evapTarget := s.output.evapTarget
      coolantTarget := s.output.coolantTarget, damperTarget := s.output.damperTarget }) :
    State.OutputSound { s with output := o } := by
  have hset : o.settings = s.output.settings := by rw [hkeeps]
  have hflow : State.flowTargets { s with output := o } = s.flowTargets := by
    simp only [State.flowTargets, hset]
    rfl
  have hstage : State.stageTarget { s with output := o } = s.stageTarget := by
    simp only [State.stageTarget, hset]
  refine (State.outputSound_iff _).mpr ⟨h.ready.change (i := s.interlock) hkeeps hseq hsteady rfl, ?_, hflow ▸ h.flow⟩
  have htaken := h.taken
  rw [State.TargetsTaken, hflow, hstage]
  dsimp only
  rw [ht]
  exact htaken

/-- The sequencer settling by itself keeps the output stage sound, whatever the delay or proof that made it settle. -/
theorem State.OutputSound.settles {s : State} (h : s.OutputSound) {o : Output} (hkeeps : s.output.KeepsPositions o)
    (hsteady : o.Steady s.cfg s.own s.interlock.ceiling)
    (ht : o = { o with
      stageTarget := s.output.stageTarget, fanTarget := s.output.fanTarget, evapTarget := s.output.evapTarget
      coolantTarget := s.output.coolantTarget, damperTarget := s.output.damperTarget }) :
    State.OutputSound { s with output := o.settle s.own } := by
  have hle : o.stageTarget ≤ s.interlock.ceiling := by
    rw [show o.stageTarget = s.output.stageTarget by rw [ht], h.taken.1]
    exact s.stageTarget_le
  refine h.keeps ?_ (o.settle_sequencer _) (hsteady.settle hle) ?_
  · rw [Output.settle_frame, hkeeps]
  · rw [Output.settle_frame, ht]

section
variable {s : State} (h : s.Fit)
include h

theorem State.Fit.endUpDelay (ha : s.acting = true) : (s.drive fun o => { o with upDelay := none }.settle s.own).Fit := by
  have hs := h.output.ready.steady
  exact h.withOutput ha
    (h.output.settles rfl ⟨hs.proof, hs.under, hs.driven, Timer.within_none _, hs.downDelay, hs.afterRun⟩ rfl)

theorem State.Fit.endDownDelay (ha : s.acting = true) :
    (s.drive fun o => { o with downDelay := none }.settle s.own).Fit := by
  have hs := h.output.ready.steady
  exact h.withOutput ha
    (h.output.settles rfl ⟨hs.proof, hs.under, hs.driven, hs.upDelay, Timer.within_none _, hs.afterRun⟩ rfl)

theorem State.Fit.proveFan (ha : s.acting = true) (hp : s.output.proof ≠ .idle) :
    (s.drive fun o => { o with proof := .proven }.settle s.own).Fit := by
  have hs := h.output.ready.steady
  exact h.withOutput ha
    (h.output.settles rfl ⟨⟨fun _ => hs.proof.1 hp, le_refl _⟩, hs.under, fun hpos => ⟨rfl, (hs.driven hpos).2⟩, hs.upDelay,
      hs.downDelay, hs.afterRun⟩ rfl)

theorem State.Fit.endAfterRun (ha : s.acting = true) : (s.drive fun o => { o with afterRun := none }).Fit := by
  have hr := h.output.ready
  have hs := hr.steady
  exact h.withOutput ha (h.output.keeps rfl hr.sequencer
    ⟨hs.proof, hs.under, fun hpos => ⟨(hs.driven hpos).1, rfl⟩, hs.upDelay, hs.downDelay, Timer.within_none _⟩ rfl)

theorem State.Fit.tickDamper (ha : s.acting = true) : (s.drive Output.tickDamper).Fit := by
  obtain ⟨⟨h1, h2, ⟨h3, h4, h5, h6⟩, h7, h8, h9, -, -, h10, h11⟩, htaken, hflow⟩ := s.outputSound_iff.mp h.output
  have hr : s.control.reading = false := (s.acting_iff.mp ha).2
  have hslew := slew_between 100 s.output.damperTarget s.output.damperPos
  have hd : s.output.damperTarget ≤ 1000 := htaken.2.2.2.2 ▸ hflow.2.2.2
  refine h.withOutput ha ((State.outputSound_iff _).mpr ⟨⟨h1, ⟨h2.proof, h2.under, h2.driven, h2.upDelay, h2.downDelay,
    h2.afterRun⟩, ⟨h3, h4, h5, ?_⟩, h7, h8, h9, ⟨fun _ => hr, fun _ => rfl⟩, Timer.within_full _, h10, h11⟩, htaken, hflow⟩)
  dsimp only [Output.tickDamper]
  omega

end

/-! ## The fan -/

/-- What the fan aims at lies in its range (R136). -/
theorem State.effectiveFan_le {s : State} (hcfg : s.cfg.InRange) (h : s.output.fanTarget ≤ 1000) : s.effectiveFan ≤ 1000 := by
  obtain ⟨-, -, -, -, -, -, -, -, -, -, -, -, -, -, hmin, -⟩ := hcfg
  unfold State.effectiveFan Output.effectiveFan
  dsimp only
  split
  · omega
  · omega
  all_goals (split <;> split_ifs <;> omega)

/-- While a stage is on the fan aims no lower than the heating minimum (R136). -/
theorem State.effectiveFan_ge {s : State} (hcfg : s.cfg.InRange) (hon : 0 < s.output.stagesOn)
    (hsupply : s.interlock.supply = .normal) : s.cfg.fanHeatMin ≤ s.effectiveFan := by
  obtain ⟨-, -, -, -, -, -, -, -, -, -, -, -, -, -, hmin, -⟩ := hcfg
  have hheats : s.output.heatsFan = true := by simp [Output.heatsFan, hon]
  unfold State.effectiveFan Output.effectiveFan
  simp only [hheats, hsupply, if_true]
  split <;> omega

/-- A tick alone proves no fan (R125). -/
theorem FanProof.judge_isProven {minimum position : Nat} {p : FanProof} (h : p.isProven = false) :
    (p.judge minimum position).isProven = false := by
  unfold FanProof.judge
  split_ifs
  · rfl
  · cases p with
    | idle => rfl
    | counting ms => rfl
    | proven => exact h

/-- A fan tick keeps the proof true to the position, and while a stage is on the proof stands (R125, R136, R140). -/
theorem State.Fit.tickFan {s : State} (h : s.Fit) (ha : s.acting = true) :
    (s.drive (Output.tickFan s.cfg s.effectiveFan)).Fit := by
  obtain ⟨⟨h1, h2, ⟨-, h4, h5, h6⟩, h7, -, -, h8, h9, h10, h11⟩, htaken, hflow⟩ := s.outputSound_iff.mp h.output
  have hr : s.control.reading = false := (s.acting_iff.mp ha).2
  have hcfg := h.control.inRange
  have hpos : s.output.fanPos ≤ 1000 := h.output.ready.positions.1
  have hle := State.effectiveFan_le hcfg (htaken.2.1 ▸ hflow.1)
  have hslew := slew_between 50 s.effectiveFan s.output.fanPos
  obtain ⟨hidle, hcount⟩ := h2.proof
  have hproof : (s.output.proof.judge s.cfg.fanHeatMin (slew 50 s.effectiveFan s.output.fanPos) ≠ .idle →
      s.cfg.fanHeatMin ≤ slew 50 s.effectiveFan s.output.fanPos)
      ∧ (s.output.proof.judge s.cfg.fanHeatMin (slew 50 s.effectiveFan s.output.fanPos)).counted ≤ 5000 := by
    unfold FanProof.judge
    split_ifs with hlt
    · exact ⟨fun hn => absurd rfl hn, by decide⟩
    · refine ⟨fun _ => Nat.not_lt.mp hlt, ?_⟩
      split
      · decide
      · next ms hms => simpa [hms] using hcount
      · exact le_refl _
  have hdriven : 0 < s.output.stagesOn →
      s.output.proof.judge s.cfg.fanHeatMin (slew 50 s.effectiveFan s.output.fanPos) = .proven ∧ s.output.afterRun = none := by
    intro hon
    obtain ⟨hproven, hafter⟩ := h2.driven hon
    refine ⟨?_, hafter⟩
    have hceiling : s.interlock.ceiling = s.interlock.effectiveCeiling := h.interlock.ceiling
    have hsupply : s.interlock.supply = .normal := by
      have hunder := h2.under
      rw [hceiling] at hunder
      unfold Interlock.effectiveCeiling at hunder
      split at hunder
      · assumption
      all_goals omega
    have hge := State.effectiveFan_ge hcfg hon hsupply
    have hmin := hidle (by simp [hproven])
    rw [hproven, FanProof.judge, if_neg (by omega)]
  have hseq : (s.output.tickFan s.cfg s.effectiveFan).SequencerSound := by
    obtain ⟨q1, q2, q3⟩ := h1
    refine ⟨q1, fun hw => ?_, q3⟩
    obtain ⟨hz, ht, hwait⟩ := q2 hw
    exact ⟨hz, ht, hwait.imp id FanProof.judge_isProven⟩
  refine h.withOutput ha ((State.outputSound_iff _).mpr ⟨⟨hseq, ⟨hproof, h2.under, hdriven, h2.upDelay, h2.downDelay,
    h2.afterRun⟩, ⟨?_, h4, h5, h6⟩, h7, ⟨fun _ => hr, fun _ => rfl⟩, Timer.within_full _, h8, h9, h10, h11⟩, htaken, hflow⟩)
  dsimp only [Output.tickFan]
  omega

end Sys2Proof.Machine
end

section
/-! The configuration settled at the end of the read (9.2, 10.2): every field in its range, whichever record was read. -/

namespace Sys2Proof.Machine

/-! ## The check of the record -/

/-- Two bytes are those of the word they make up. -/
theorem wordBytes_wordOf (hi lo : Byte) : wordBytes (wordOf hi lo) = [hi, lo] := by
  have h : wordOf hi lo = hi ++ lo := rfl
  rw [wordBytes, h]
  congr 1
  · apply BitVec.eq_of_getLsbD_eq
    intro i hi'
    rw [BitVec.getLsbD_extractLsb', BitVec.getLsbD_append]
    simp [hi']
  · congr 1
    apply BitVec.eq_of_getLsbD_eq
    intro i hi'
    rw [BitVec.getLsbD_extractLsb', BitVec.getLsbD_append]
    simp [hi']

theorem wordBytes_inj {a b : Word} (h : wordBytes a = wordBytes b) : a = b := by
  simp only [wordBytes, List.cons.injEq, and_true] at h
  rw [← wordOf_wordBytes a, ← wordOf_wordBytes b, h.1, h.2]

/-- What a run of bytes that ends in its check holds before it. -/
theorem checked_eq_some_iff (bytes body : List Byte) : checked bytes = some body ↔ bytes = withCheck body := by
  constructor
  · intro h
    unfold checked at h
    dsimp only at h
    split_ifs at h with hlen hdrop
    obtain rfl := Option.some.inj h
    rw [withCheck, ← hdrop, List.take_append_drop]
  · rintro rfl
    exact checked_withCheck body

/-- The check of a record is good where its last two bytes are the check of the 62 before them (10.3). -/
theorem checked_record_isSome {r : List Byte} (h : 64 ≤ r.length) :
    (checked (r.take 64)).isSome = true ↔ wordOf (r.getD 62 0#8) (r.getD 63 0#8) = check (r.take 62) := by
  have hlen : (r.take 64).length = 64 := by simp [h]
  have htake : (r.take 64).take 62 = r.take 62 := by simp [List.take_take]
  have hdrop : (r.take 64).drop 62 = [r.getD 62 0#8, r.getD 63 0#8] := by
    refine List.ext_getElem (by simp [h]) fun i h1 h2 => ?_
    have hi : i < 2 := by simpa using h2
    have hlt : 62 + i < r.length := by omega
    simp only [List.getElem_drop, List.getElem_take]
    rcases (by omega : i = 0 ∨ i = 1) with rfl | rfl <;>
      simp [List.getD_eq_getElem?_getD, show 62 < r.length by omega, show 63 < r.length by omega]
  unfold checked
  simp only [hlen, show ¬(64 : Nat) < 2 by decide, if_false, show 64 - 2 = 62 from rfl, htake, hdrop]
  split_ifs with hc
  · rw [← wordBytes_wordOf] at hc
    exact ⟨fun _ => wordBytes_inj hc, fun _ => rfl⟩
  · rw [← wordBytes_wordOf] at hc
    exact ⟨fun hs => (by cases hs), fun hw => absurd (congrArg wordBytes hw) hc⟩

/-! ## The fields brought within their ranges -/

theorem byteAt_le (r : List Byte) (i : Nat) : byteAt r i ≤ 255 := by
  unfold byteAt
  have := (r.getD i 0#8).isLt
  omega

theorem nearestPeriod_mem (p : Nat) : nearestPeriod p = 250 ∨ nearestPeriod p = 500 ∨ nearestPeriod p = 1000 := by
  unfold nearestPeriod
  split_ifs <;> simp

theorem powerAt_eq (r : List Byte) : min 2000 (byteAt r 7 * 100) = min 20 (byteAt r 7) * 100 := by omega

/-- The fields of a record within their ranges, R157's spacing of the supply figures apart. -/
structure FieldsBounded (c : Settings) : Prop where
  zones : 2 ≤ c.zones ∧ c.zones ≤ 16
  period : c.period = 250 ∨ c.period = 500 ∨ c.period = 1000
  stages : c.stages ≤ 3
  stagePower : c.stagePower ≤ 2000 ∧ c.stagePower % 100 = 0
  coolRating : c.coolRating ≤ 250
  coolantShare : c.coolantShare ≤ 1000
  offset : -32 ≤ c.offset ∧ c.offset ≤ 32
  gains : c.kp ≤ 255 ∧ c.ki ≤ 255
  deadBand : c.deadBand ≤ 16
  speeds : c.fanMin ≤ 1000 ∧ c.fanHeatMin ≤ 1000 ∧ c.ventSpeed ≤ 1000 ∧ c.minFresh ≤ 1000
  reserves : c.reserveEl ≤ 6000 ∧ c.reserveC ≤ 250
  blind : c.blindBudget ≤ 60000 ∧ c.blindCooling ≤ 4000
  supplyEntry : 220 ≤ c.supplyEntry ∧ c.supplyEntry ≤ 260
  supplyExit : c.supplyExit ≤ 300
  trimRet : -32 ≤ c.trimRet ∧ c.trimRet ≤ 32
  trimDischarge : -32 ≤ c.trimDischarge ∧ c.trimDischarge ≤ 32
  trimCoil : -32 ≤ c.trimCoil ∧ c.trimCoil ≤ 32
  trimFresh : -32 ≤ c.trimFresh ∧ c.trimFresh ≤ 32

theorem withinRange_bounded (r : List Byte) : FieldsBounded (withinRange (recordFields r)) := by
  have h32 : ∀ x : Int, -32 ≤ clampInt (-32) 32 x ∧ clampInt (-32) 32 x ≤ 32 := clampInt_mem (by decide)
  refine ⟨clampNat_mem (by decide) _, nearestPeriod_mem _, Nat.min_le_left _ _, ⟨Nat.min_le_left _ _, ?_⟩, Nat.min_le_left _ _,
    Nat.min_le_left _ _, h32 _, ⟨byteAt_le r 12, byteAt_le r 13⟩, Nat.min_le_left _ _,
    ⟨Nat.min_le_left _ _, Nat.min_le_left _ _, Nat.min_le_left _ _, Nat.min_le_left _ _⟩,
    ⟨Nat.min_le_left _ _, Nat.min_le_left _ _⟩, ⟨Nat.min_le_left _ _, Nat.min_le_left _ _⟩, clampNat_mem (by decide) _,
    (clampNat_mem (by decide) _).2, h32 _, h32 _, h32 _, h32 _⟩
  change min 2000 (byteAt r 7 * 100) % 100 = 0
  omega

/-- Fields that lie in their ranges are left as they are. -/
theorem withinRange_of_inRange {c : Settings} (h : c.InRange) : withinRange c = c := by
  obtain ⟨z1, z2, hp, hs, p1, p2, hr, hc, o1, o2, g1, g2, hd, s1, s2, s3, s4, r1, r2, b1, b2, e1, e2, e3, e4, t1, t2, t3, t4,
    t5, t6, t7, t8⟩ := h
  have hperiod : nearestPeriod c.period = c.period := by rcases hp with hp | hp | hp <;> rw [hp] <;> rfl
  have hclamp : ∀ {x : Int}, -32 ≤ x → x ≤ 32 → clampInt (-32) 32 x = x := clampInt_eq
  have hnat : ∀ {lo hi x : Nat}, lo ≤ x → x ≤ hi → clampNat lo hi x = x := fun hl hh => by unfold clampNat; omega
  unfold withinRange
  rw [hnat z1 z2, hperiod, min_eq_right hs, min_eq_right p1, min_eq_right hr, min_eq_right hc, hclamp o1 o2,
    min_eq_right hd, min_eq_right s1, min_eq_right s2, min_eq_right s3, min_eq_right s4, min_eq_right r1, min_eq_right r2,
    min_eq_right b1, min_eq_right b2, hnat e1 e2, hnat (show 225 ≤ c.supplyExit by omega) e4, hclamp t1 t2, hclamp t3 t4,
    hclamp t5 t6, hclamp t7 t8]

theorem defaults_bounded (a b c : Bool) : FieldsBounded (Config.defaults a b c) := by
  constructor <;> simp [Config.defaults]

/-- The fields as they are loaded: from a good record or by default (R168). -/
def loaded (r : List Byte) : Loaded :=
  if 64 ≤ r.length && (checked (r.take 64)).isSome then loadFields r else loadDefaults

theorem settleConfiguration_eq (own : Nat) (r : List Byte) :
    settleConfiguration own r = adjustExit (raiseZones own (loaded r)) := rfl

theorem loaded_bounded (r : List Byte) : FieldsBounded (loaded r).cfg := by
  unfold loaded
  split_ifs
  · exact withinRange_bounded r
  · exact defaults_bounded _ _ _

/-! ## The adjustments -/

/-- A Z below the own number is raised to it, and nothing else is (R168). -/
theorem raiseZones_cfg (own : Nat) (l : Loaded) :
    (raiseZones own l).cfg = { l.cfg with zones := max own l.cfg.zones }
    ∧ (raiseZones own l).cfgDefault = l.cfgDefault
    ∧ (raiseZones own l).cfgClamped = (l.cfgClamped || decide (l.cfg.zones < own)) := by
  unfold raiseZones
  split_ifs with h
  · simp [Nat.max_eq_left h.le, h]
  · simp [Nat.max_eq_right (Nat.not_lt.mp h), h]

/-- A supply exit too near the entry is moved up, and nothing else is (R157). -/
theorem adjustExit_cfg (l : Loaded) :
    (adjustExit l).cfg =
        { l.cfg with supplyExit := if l.cfg.supplyExit < l.cfg.supplyEntry + 5 then l.cfg.supplyEntry + 10
                                   else l.cfg.supplyExit }
    ∧ (adjustExit l).cfgDefault = l.cfgDefault
    ∧ (adjustExit l).cfgClamped = (l.cfgClamped || decide (l.cfg.supplyExit < l.cfg.supplyEntry + 5)) := by
  unfold adjustExit
  split_ifs with h <;> simp [h]

/-- The configuration settled, in terms of the fields loaded (R157, R168). -/
theorem settleConfiguration_cfg (own : Nat) (r : List Byte) :
    (settleConfiguration own r).cfg = { (loaded r).cfg with
        zones := max own (loaded r).cfg.zones
        supplyExit := if (loaded r).cfg.supplyExit < (loaded r).cfg.supplyEntry + 5 then (loaded r).cfg.supplyEntry + 10
                      else (loaded r).cfg.supplyExit }
    ∧ (settleConfiguration own r).cfgDefault = (loaded r).cfgDefault
    ∧ (settleConfiguration own r).cfgClamped = ((loaded r).cfgClamped || decide ((loaded r).cfg.zones < own)
        || decide ((loaded r).cfg.supplyExit < (loaded r).cfg.supplyEntry + 5)) := by
  obtain ⟨h1, h2, h3⟩ := raiseZones_cfg own (loaded r)
  obtain ⟨k1, k2, k3⟩ := adjustExit_cfg (raiseZones own (loaded r))
  rw [settleConfiguration_eq]
  simp only [k1, k2, k3, h1, h2, h3]
  trivial

/-- Every configuration value in use lies in its range, and the own number within Z. -/
theorem settleConfiguration_inRange {own : Nat} (r : List Byte) (h16 : own ≤ 16) :
    (settleConfiguration own r).cfg.InRange ∧ own ≤ (settleConfiguration own r).cfg.zones := by
  obtain ⟨⟨z1, z2⟩, hp, hs, ⟨p1, p2⟩, hr, hc, ⟨o1, o2⟩, ⟨g1, g2⟩, hd, ⟨s1, s2, s3, s4⟩, ⟨r1, r2⟩, ⟨b1, b2⟩, ⟨e1, e2⟩, hx,
    ⟨t1, t2⟩, ⟨t3, t4⟩, ⟨t5, t6⟩, t7, t8⟩ := loaded_bounded r
  rw [(settleConfiguration_cfg own r).1]
  refine ⟨⟨?_, ?_, hp, hs, p1, p2, hr, hc, o1, o2, g1, g2, hd, s1, s2, s3, s4, r1, r2, b1, b2, e1, e2, ?_, ?_, t1, t2, t3, t4,
    t5, t6, t7, t8⟩, ?_⟩
  all_goals dsimp only
  · omega
  · omega
  · split_ifs <;> omega
  · split_ifs <;> omega
  · omega

/-- The clamped flag says that the values in use are not those of the record, or that a yes-or-no byte was beyond its
range (R168). -/
theorem clamped_iff {own : Nat} {r : List Byte} {l : Loaded}
    (hclamped : l.cfgClamped = ((loadFields r).cfgClamped || (decide ((loadFields r).cfg.zones < own)
        || decide ((loadFields r).cfg.supplyExit < (loadFields r).cfg.supplyEntry + 5))))
    (hcfg : l.cfg = { (loadFields r).cfg with
        zones := max own (loadFields r).cfg.zones
        supplyExit := if (loadFields r).cfg.supplyExit < (loadFields r).cfg.supplyEntry + 5
                      then (loadFields r).cfg.supplyEntry + 10 else (loadFields r).cfg.supplyExit })
    (hrange : l.cfg.InRange) :
    l.cfgClamped = true ↔ l.cfg ≠ recordFields r ∨ 1 < byteAt r 3 ∨ 1 < byteAt r 4 ∨ 1 < byteAt r 5 := by
  have hodd : oddSwitch r = true ↔ 1 < byteAt r 3 ∨ 1 < byteAt r 4 ∨ 1 < byteAt r 5 := by
    simp [oddSwitch, or_assoc]
  have hload : (loadFields r).cfgClamped = true ↔ (loadFields r).cfg ≠ recordFields r ∨ oddSwitch r = true := by
    simp [loadFields]
  rw [hclamped, Bool.or_eq_true, hload, hodd, Bool.or_eq_true, decide_eq_true_eq, decide_eq_true_eq]
  by_cases hsame : l.cfg = recordFields r
  · have hkeep : (loadFields r).cfg = l.cfg := by
      rw [hsame]
      exact withinRange_of_inRange (hsame ▸ hrange)
    have hz : l.cfg.zones = max own l.cfg.zones := by
      conv_lhs => rw [hcfg]
      rw [hkeep]
    have hx : l.cfg.supplyExit =
        if l.cfg.supplyExit < l.cfg.supplyEntry + 5 then l.cfg.supplyEntry + 10 else l.cfg.supplyExit := by
      conv_lhs => rw [hcfg]
      rw [hkeep]
    rw [hkeep]
    have hzones : ¬ l.cfg.zones < own := by omega
    have hexit : ¬ l.cfg.supplyExit < l.cfg.supplyEntry + 5 := by
      intro hlt
      rw [if_pos hlt] at hx
      omega
    simp [hsame, hsame ▸ hzones, hsame ▸ hexit]
  · refine ⟨fun _ => .inl hsame, fun _ => ?_⟩
    by_contra hno
    simp only [not_or, not_not, not_lt] at hno
    obtain ⟨⟨hkeep, -⟩, hzones, hexit⟩ := hno
    rw [max_eq_right hzones, if_neg (Nat.not_lt.mpr hexit)] at hcfg
    exact hsame (hcfg.trans hkeep)

theorem loaded_of_good {r : List Byte} (h : 64 ≤ r.length) (hc : (checked (r.take 64)).isSome = true) :
    loaded r = loadFields r := by simp [loaded, h, hc]

theorem loaded_of_bad {r : List Byte} (h : ¬(64 ≤ r.length ∧ (checked (r.take 64)).isSome = true)) :
    loaded r = loadDefaults := by
  unfold loaded
  rw [if_neg]
  simpa using h

/-- Settles O17: the fields loaded, then Z raised to the own number and the supply exit spaced from the entry. -/
theorem configurationSettled : Obligations.ConfigurationSettled := by
  intro own r hown h16 l good entry leaving near yes p
  obtain ⟨hcfg, hdefault, hclamped⟩ := settleConfiguration_cfg own r
  obtain ⟨hrange, hzones⟩ := settleConfiguration_inRange r h16
  have hgood : good ↔ 64 ≤ r.length ∧ (checked (r.take 64)).isSome = true := by
    constructor
    · rintro ⟨h1, h2⟩
      exact ⟨h1, (checked_record_isSome h1).mpr h2⟩
    · rintro ⟨h1, h2⟩
      exact ⟨h1, (checked_record_isSome h1).mp h2⟩
  refine ⟨hrange, hzones, fun hbad => ?_, fun hok => ?_⟩
  · rw [loaded_of_bad (fun h => hbad (hgood.mpr h))] at hcfg hdefault hclamped
    refine ⟨hdefault, ?_, ?_⟩
    · rw [show l.cfgClamped = _ from hclamped]
      simp only [loadDefaults, Config.defaults, Bool.false_or, show ¬(255 < 235 + 5) by decide, decide_false, Bool.or_false]
      exact decide_eq_true_iff
    · rw [show l.cfg = _ from hcfg]
      simp [loadDefaults, Config.defaults, Nat.max_comm]
  · obtain ⟨h1, h2⟩ := hgood.mp hok
    rw [loaded_of_good h1 h2] at hcfg hdefault hclamped
    refine ⟨hdefault, ?_, ?_⟩
    · exact clamped_iff (hclamped.trans (Bool.or_assoc _ _ _)) hcfg hrange
    · rw [show l.cfg = _ from hcfg]
      simp only [loadFields, withinRange, recordFields, clampNat, clampInt, powerAt_eq]
      rfl

end Sys2Proof.Machine
end

section
/-! The link controller's events, the requests, the restart and the beginnings keep a station sound (chapters 2 and 9). -/

namespace Sys2Proof.Machine

/-! ## A change of the link controller -/

/-- The station with no restart pending. -/
def State.unpending (s : State) : State := { s with control := { s.control with restartPending := false } }

/-- A change of the link controller alone, where no restart is pending. -/
theorem State.Fit.withLink {s : State} (h : s.Fit) (ha : s.awake = true) (hp : s.control.restartPending = false) {l : Link}
    (hl : State.LinkReady { s with link := l }) : State.Fit { s with link := l } := by
  refine ⟨?_, ⟨fun hf => absurd ha (by rw [show s.awake = false from hf]; decide), h.waiting.2⟩, h.sensing, hl, h.peers,
    h.demand, h.share, h.arbiter, h.output, h.interlock⟩
  obtain ⟨h1, h2, h3, h4, h5, h6, h7, h8, h9, -, h11⟩ := h.control
  exact ⟨h1, h2, h3, h4, h5, h6, h7, h8, h9, fun hr => absurd hr (by rw [show _ = _ from hp]; decide), h11⟩

theorem State.Sound.unpending {s : State} (h : s.Sound) : s.unpending.Sound := by
  obtain ⟨⟨h1, h2, h3, h4, h5, h6, h7, h8, h9, -, h11⟩, hrest⟩ := h
  exact ⟨⟨h1, h2, h3, h4, h5, h6, h7, h8, h9, fun hr => (by cases hr), h11⟩, hrest⟩

theorem State.unpending_of_not {s : State} (h : s.control.restartPending = false) : s.unpending = s := by
  obtain ⟨pins, control⟩ := s
  obtain ⟨state, phase, own, cfg, cfgDefault, cfgClamped, cause, listen, test, restartPending⟩ := control
  simp only at h
  subst h
  rfl

/-! ## The restart -/

/-- The ceiling handed on keeps the output stage ready, whatever targets it held. -/
theorem State.OutputReady.handCeiling {s : State} (h : s.OutputReady) (hflow : s.ceiled.flowTargets.InRange) :
    s.handCeiling.OutputReady := by
  obtain ⟨-, he⟩ | ⟨-, hlt, he⟩ | ⟨-, hle, he⟩ := s.handCeiling_cases <;> rw [he]
  · exact h
  · exact (State.shed_sound (s := s.ceiled) (c := s.interlock.ceiling) h hflow hlt.le (le_refl _)
      s.ceiled.stageTarget_le).ready
  · have hready : s.ceiled.OutputReady :=
      ⟨h.sequencer, ⟨h.steady.proof, hle, h.steady.driven, h.steady.upDelay, h.steady.downDelay, h.steady.afterRun⟩,
        h.positions, h.settings, h.fanTick, h.fanTickIn, h.damperTick, h.damperTickIn, h.frost, h.shut⟩
    exact hready.takeTargets

/-- The share unit at its first value, with no demand, is sound (R95). -/
theorem State.shareSound_initial {s : State} (h : s.share = .initial) (hd : s.demand = .initial) : s.ShareSound := by
  simp only [State.ShareSound, h, hd, Share.initial, Demand.initial, DemandRecord.zero]
  simpa using Timer.within_none _

/-- The station as a restart leaves it before the ceiling is handed on. -/
def State.restarting (s : State) : State :=
  { s with
    control := { s.control with
      state := .starting, phase := .listening, cause := .restart, listen := some (2 * s.cfg.period),
      test := none, restartPending := false }
    link := s.link.restarted
    peers := { s.peers with duplicate := none }
    demand := .initial
    share := .initial
    arbiter := s.arbiter.cleared
    output := { s.output.shutValves with settings := .zero }
    interlock := s.interlock.begins s.cfg.stages }

theorem State.restarted_eq (s : State) : s.restarted = s.restarting.handCeiling.takeTargets := rfl

/-- The link controller at a restart sends no report and has none to send (R36). -/
theorem Link.restarted_eq (l : Link) :
    l.restarted = { l with
      reportSlot := none, reportCount := 0, sinceReport := none, sinceDiscard := none, firstIn := none
      earlyIn := none, changed := false
      attempt := l.attempt.map fun a => { a with live := a.live && !a.content.isReport } } := by
  unfold Link.restarted
  cases hl : l.attempt with
  | none => rfl
  | some a =>
    obtain ⟨content, live⟩ := a
    cases content <;> simp [Content.isReport]

theorem State.LinkReady.restarting {s : State} (h : s.LinkReady) : s.restarting.LinkReady := by
  obtain ⟨⟨l1, l2, l3, l4⟩, h2, h3, h4, h5, h6, h7, h8⟩ := h
  have hl := s.link.restarted_eq
  have hline : s.restarting.LineSound := by
    simp only [State.LineSound, State.restarting, hl]
    exact ⟨l1, l2, fun hu => ⟨(l3 hu).1, by simp [(l3 hu).2]⟩, by simpa using l4⟩
  have hslots : s.link.restarted.AttemptIsSlots := by
    intro a ha hlive
    rw [hl] at ha
    obtain ⟨b, hb, rfl⟩ := Option.map_eq_some_iff.mp ha
    simp only [Bool.and_eq_true, Bool.not_eq_true'] at hlive
    have := h6 b hb hlive.1
    rw [hl]
    obtain ⟨content, live⟩ := b
    cases content with
    | report r => cases hlive.2
    | reply r => exact this
  refine ⟨hline, ?_, ?_, ?_, ?_, hslots, ?_, ?_⟩
  all_goals simp only [State.restarting, hl]
  · exact Nat.succ_pos 15
  · exact h3
  · exact fun _ => trivial
  · exact h5
  · exact fun hc => by cases hc
  · exact fun _ => ⟨trivial, trivial, trivial, trivial, trivial⟩

theorem State.flowTargets_of_starting {s : State} (h : s.control.state = .starting) :
    s.flowTargets = { fan := 0, evap := 0, coolant := 0, damper := 0 } ∧ s.stageTarget = 0 := by
  simp [State.flowTargets, State.stageTarget, h]

theorem State.flowTargets_inRange_of_starting {s : State} (h : s.control.state = .starting) : s.flowTargets.InRange := by
  rw [(State.flowTargets_of_starting h).1]
  exact ⟨Nat.zero_le _, Nat.zero_le _, Nat.zero_le _, Nat.zero_le _⟩

/-- The interlock unit as every beginning sets it (R156, R158, R161). -/
theorem Interlock.Ready.begins {stages : Nat} {i : Interlock} (h : i.Ready stages) : (i.begins stages).Ready stages :=
  .of_parts ⟨h.trips, h.unlocked, h.ordered, h.remembered, h.openDwell, h.openLength, h.cooldown, h.cooldownLength⟩
    ⟨fun hs => (by cases hs), Timer.within_none _, fun hs => (by cases hs), Timer.within_none _⟩
    ⟨fun hs => (by cases hs), Timer.within_none _, fun hs => (by cases hs), Timer.within_none _⟩
    ⟨le_refl _, fun hs => (by cases hs), Timer.within_none _, fun hs => (by cases hs), Timer.within_none _⟩

theorem State.Fit.restarting_control {s : State} (h : s.Fit) (ha : s.acting = true) : s.restarting.ControlSound := by
  have hr : s.control.reading = false := (s.acting_iff.mp ha).2
  obtain ⟨h1, h2, h3, h4, -, -, -, -, -, -, h11, -, h13⟩ := h.control
  have hnone : s.control.read = none := by
    rw [hr] at h11
    simpa using h11
  refine ⟨h1, h2, h3, fun _ => h4 hr, fun hp => (by cases hp), ⟨fun _ => ⟨rfl, rfl⟩, fun _ => rfl⟩, Timer.within_full _,
    ⟨fun hs => (by cases hs), fun hs => (by cases hs)⟩, Timer.within_none _, fun hp => (by cases hp), ?_, ?_, h13⟩
  · change s.control.read.isSome ↔ s.awake = true ∧ false = true
    simp [hnone]
  · change s.control.read.within 100
    rw [hnone]
    exact Timer.within_none _

/-- A restart leaves the station fit (R176). -/
theorem State.Fit.restarted {s : State} (h : s.Fit) (ha : s.acting = true) : s.restarted.Fit := by
  have hr : s.control.reading = false := (s.acting_iff.mp ha).2
  have hready : s.restarting.OutputReady := by
    obtain ⟨o1, ⟨o2, o3, o4, o5, o6, o7⟩, ⟨o8, -, -, o11⟩, -, o13, o14, o15, o16, -, -⟩ := h.output.ready
    rw [hr] at o13 o15
    exact ⟨o1, ⟨o2, o3, o4, o5, o6, o7⟩, ⟨o8, Nat.zero_le _, Nat.zero_le _, o11⟩,
      ⟨Nat.zero_le _, Nat.zero_le _, Nat.zero_le _, Nat.zero_le _, Nat.zero_le _⟩, o13, o14, o15, o16, fun _ => rfl,
      fun _ => ⟨rfl, rfl⟩⟩
  have hout := (hready.handCeiling (State.flowTargets_inRange_of_starting rfl)).takeTargets_sound
    (State.flowTargets_inRange_of_starting (by rw [State.handCeiling_control]; rfl))
  have hinter := State.handCeiling_interlockSound (s := s.restarting) h.interlock.ready.begins
  have hawake : s.restarting.acting = true := by
    rw [State.acting_iff]
    exact ⟨(s.acting_iff.mp ha).1, rfl⟩
  obtain ⟨a1, a2, a3, a4⟩ := h.arbiter.cleared
  rw [State.restarted_eq]
  rw [State.handCeiling_frame] at hout hinter ⊢
  exact ⟨h.restarting_control ha, State.waitingSound_of_acting hawake, h.sensing, h.link.restarting.of_eq rfl rfl rfl,
    h.peers.setDuplicate (Timer.within_none _), State.demandSound_initial rfl (.inl rfl),
    State.shareSound_initial rfl rfl, (State.arbiterSound_iff _).mpr ⟨⟨a1, fun _ => ⟨rfl, rfl, rfl, rfl, rfl⟩,
      fun hs => (by cases hs), a3, a4⟩, a2⟩, hout, hinter⟩

theorem State.restarted_unpending (s : State) : s.unpending.restarted = s.restarted := rfl

@[simp] theorem State.restarted_link (s : State) : s.restarted.link = s.link.restarted := by
  rw [State.restarted_eq, State.takeTargets_link, State.handCeiling_link]
  rfl

/-- A restart sends no report, so none is out of date. -/
theorem State.restarted_current (s : State) : s.restarted.ReportCurrent := by
  intro r hr
  rw [State.restarted_link, Link.restarted_eq] at hr
  cases hr

/-- A station that is sound but for a restart pending whose OK reply may have left the slot is sound once the restart is
settled (R176). -/
theorem State.settleRestart_sound {s : State} (h : s.unpending.Sound)
    (hp : s.control.restartPending = true → s.control.state ≠ .starting) : s.settleRestart.Sound := by
  cases hd : s.restartDue with
  | true =>
    obtain ⟨hpending, -⟩ := s.restartDue_iff.mp hd
    have ha : s.unpending.acting = true :=
      h.fit.acting_of_not_reading (by simp [Control.reading, State.unpending, hp hpending])
    rw [State.settleRestart_of_due hd, ← State.restarted_unpending]
    exact (State.sound_iff _).mpr ⟨h.fit.restarted ha, s.unpending.restarted_current⟩
  | false =>
    rw [State.settleRestart_of_not_due hd]
    cases hc : s.control.restartPending with
    | false => rwa [State.unpending_of_not hc] at h
    | true =>
      have hholds : s.link.holdsRestartOk = true := by simpa [State.restartDue, hc] using hd
      obtain ⟨⟨h1, h2, h3, h4, h5, h6, h7, h8, h9, -, h11⟩, hrest⟩ := h
      exact ⟨⟨h1, h2, h3, h4, h5, h6, h7, h8, h9, fun _ => ⟨hp hc, hholds⟩, h11⟩, hrest⟩

theorem State.ControlSound.restartDue {s : State} (h : s.ControlSound) : s.restartDue = false := by
  obtain ⟨-, -, -, -, -, -, -, -, -, h10, -⟩ := h
  cases hd : s.restartDue with
  | false => rfl
  | true =>
    obtain ⟨hpending, hholds⟩ := s.restartDue_iff.mp hd
    rw [(h10 hpending).2] at hholds
    cases hholds

/-! ## The beginnings -/

/-- A station at the values of a beginning, reading its configuration or waiting for it (R17, R36, R57, R78, R95, R120,
R148, R154, R165, R167, R178). -/
structure State.AtBeginning (s : State) : Prop where
  own : 1 ≤ s.own ∧ s.own ≤ 16
  control : ∃ read, s.control = { Control.initial s.own s.control.cause with read := read } ∧ read.within 100
    ∧ (read.isSome ↔ s.awake = true)
  pins : s.pins.holdIsCold = true → s.pins.powered = true ∧ s.pins.resetLow = true
  micros : s.micros < 1000
  sensing : s.sensing = .initial
  link : s.link = .initial
  peers : s.peers = .initial
  demand : s.demand = .initial
  share : s.share = .initial
  arbiter : s.arbiter = .initial
  output : s.output = .initial
  interlock : ∃ i : Interlock, i.Ready 3 ∧ s.interlock = i.pinReset 3

theorem unreadSettings_inRange : unreadSettings.InRange := by decide

/-- The interlock unit after a pin reset (R154, R165). -/
theorem Interlock.Ready.pinReset {n m : Nat} {i : Interlock} (h : i.Ready n) : (i.pinReset m).Ready m :=
  .of_parts ⟨h.trips, h.unlocked, h.ordered, h.remembered, fun hs => (by cases hs), Timer.within_none _, h.cooldown,
      h.cooldownLength⟩
    ⟨fun hs => (by cases hs), Timer.within_none _, fun hs => (by cases hs), Timer.within_none _⟩
    ⟨fun hs => (by cases hs), Timer.within_none _, fun hs => (by cases hs), Timer.within_none _⟩
    ⟨le_refl _, fun hs => (by cases hs), Timer.within_none _, fun hs => (by cases hs), Timer.within_none _⟩

theorem Arbiter.initial_sound : Arbiter.initial.Sound := by decide

/-- The peer block at its first value is sound (R57). -/
theorem State.peersSound_initial {s : State} (h : s.peers = .initial) : s.PeersSound := by
  rw [State.PeersSound, h]
  exact ⟨List.Pairwise.nil, fun e he => (by cases he), Timer.within_none _, by decide, by decide, Timer.within_none _,
    fun w hw => (by cases hw), Timer.within_none _, fun hs => (by cases hs), fun c hc => (by cases hc),
    fun t ht => (by cases ht), Timer.within_none _, fun hs => (by cases hs), fun hs => by cases hs⟩

/-- The sensing unit at its first value is sound (R17). -/
theorem State.sensingSound_initial {s : State} (h : s.sensing = .initial) : s.SensingSound := by
  rw [State.SensingSound, h]
  exact ⟨rfl, rfl, rfl, rfl, fun v hv => (by cases hv), ⟨by decide, by decide⟩, fun _ => rfl, by decide, fun _ => rfl⟩

theorem State.AtBeginning.sound {s : State} (h : s.AtBeginning) : s.Sound := by
  obtain ⟨⟨h1, h16⟩, ⟨read, hc, hread, hsome⟩, hpins, hmicros, hsensing, hlink, hpeers, hdemand, hshare, harb, hout, i, hi,
    hinter⟩ := h
  have hstate : s.control.state = .starting := by rw [hc]; rfl
  have hreading : s.control.reading = true := by rw [hc]; rfl
  have hcfg : s.cfg = unreadSettings := by rw [State.cfg, hc]; rfl
  have hcontrol : s.ControlSound := by
    refine ⟨h1, h16, hcfg ▸ unreadSettings_inRange, fun hf => (by rw [hreading] at hf; cases hf), fun _ => hstate, ?_, ?_, ?_,
      ?_, fun hp => ?_, ?_, ?_, hpins⟩
    · rw [hc]
      exact ⟨fun hs => (by cases hs), fun hs => (by cases hs.2)⟩
    · rw [hc]
      exact Timer.within_none _
    · rw [hc]
      exact ⟨fun hs => (by cases hs), fun hs => (by cases hs)⟩
    · rw [hc]
      exact Timer.within_none _
    · rw [hc] at hp
      cases hp
    · rw [hreading, show s.control.read = read from congrArg Control.read hc]
      simpa using hsome
    · rw [hc]
      exact hread
  have hready : s.LinkReady := by
    constructor
    all_goals simp only [State.LineSound, hlink]
    case line => exact ⟨Nat.zero_le _, hmicros, fun _ => ⟨rfl, rfl⟩, fun hs => by cases hs⟩
    case starting => exact fun _ => ⟨rfl, rfl, rfl, rfl, rfl⟩
    case attempt => exact fun a ha => by cases ha
    all_goals decide
  refine (State.sound_iff _).mpr ⟨⟨hcontrol, ?_, ?_, hready, ?_, State.demandSound_initial hdemand (.inl hstate),
    State.shareSound_initial hshare hdemand, ?_, ?_, ?_⟩, ?_⟩
  · refine ⟨fun _ => ⟨hreading, hlink⟩, fun _ => ⟨hsensing, hpeers, hdemand, hshare, harb, hout, ?_⟩⟩
    rw [hinter, hcfg]
    exact ⟨rfl, rfl, rfl, rfl, rfl, rfl, rfl, rfl, rfl, rfl⟩
  · exact State.sensingSound_initial hsensing
  · exact State.peersSound_initial hpeers
  · have hholds : s.doorHolds = false := by
      simp [State.doorHolds, State.neighbourDoor, hpeers, harb, Peers.initial, Arbiter.initial]
    refine (State.arbiterSound_iff _).mpr ⟨⟨?_, ?_, ?_, ?_, ?_⟩, ?_⟩
    all_goals rw [harb]
    · exact Arbiter.initial_sound
    · exact fun _ => ⟨rfl, rfl, rfl, rfl, rfl⟩
    · exact fun _ hs => by cases hs
    · exact fun hs => by cases hs
    · exact fun hs => by cases hs
    · exact hholds.symm
  · obtain ⟨hflow, hstage⟩ := State.flowTargets_of_starting hstate
    refine (State.outputSound_iff _).mpr ⟨⟨?_, ⟨?_, ?_, ?_, ?_, ?_, ?_⟩, ?_, ?_, ?_, ?_, ?_, ?_, ?_, ?_⟩, ?_,
      State.flowTargets_inRange_of_starting hstate⟩
    all_goals simp only [State.TargetsTaken, hflow, hstage, hout, hreading]
    · decide
    · exact ⟨fun hp => absurd rfl hp, Nat.zero_le _⟩
    · exact Nat.zero_le _
    · exact fun hp => absurd hp (by decide)
    · exact Timer.within_none _
    · exact Timer.within_none _
    · exact Timer.within_none _
    · decide
    · exact ⟨Nat.zero_le _, Nat.zero_le _, Nat.zero_le _, Nat.zero_le _, Nat.zero_le _⟩
    · decide
    · exact Timer.within_none _
    · decide
    · exact Timer.within_none _
    · exact fun _ => rfl
    · exact fun _ => ⟨rfl, rfl⟩
    · decide
  · rw [State.interlockSound_iff, hinter, hcfg]
    exact ⟨rfl, hi.pinReset⟩
  · intro r hr
    rw [hlink] at hr
    cases hr

/-- The interlock unit after a cold start is one that a pin reset would give from it. -/
theorem Interlock.initial_pinReset (n : Nat) : (Interlock.initial n).pinReset n = Interlock.initial n := rfl

theorem Interlock.initial_ready (n : Nat) : (Interlock.initial n).Ready n :=
  .of_parts ⟨Nat.zero_le _, fun _ => Nat.zero_le _, List.Pairwise.nil, fun age ha => (by cases ha), fun hs => (by cases hs),
      Timer.within_none _, ⟨fun hs => (by cases hs), fun hs => (by cases hs)⟩, Timer.within_none _⟩
    ⟨fun hs => (by cases hs), Timer.within_none _, fun hs => (by cases hs), Timer.within_none _⟩
    ⟨fun hs => (by cases hs), Timer.within_none _, fun hs => (by cases hs), Timer.within_none _⟩
    ⟨le_refl _, fun hs => (by cases hs), Timer.within_none _, fun hs => (by cases hs), Timer.within_none _⟩

/-- A station at its cold-start values. -/
theorem State.atBeginning_cold {s : State} {own : Nat} {cause : StartCause} {read : Timer} {pins : Pins}
    (hown : 1 ≤ own ∧ own ≤ 16) (hread : read.within 100)
    (hsome : read.isSome ↔ (pins.powered && !pins.resetLow) = true)
    (hpins : pins.holdIsCold = true → pins.powered = true ∧ pins.resetLow = true) (hmicros : s.micros < 1000) :
    State.AtBeginning { s.coldValues { Control.initial own cause with read := read } with pins := pins } :=
  ⟨hown, ⟨read, rfl, hread, hsome⟩, hpins, hmicros, rfl, rfl, rfl, rfl, rfl, rfl, rfl, _, Interlock.initial_ready 3, rfl⟩

/-- A station at its values after a pin reset. -/
theorem State.atBeginning_pin {s : State} {own : Nat} {cause : StartCause} {read : Timer} {pins : Pins}
    (hown : 1 ≤ own ∧ own ≤ 16) (hread : read.within 100)
    (hsome : read.isSome ↔ (pins.powered && !pins.resetLow) = true)
    (hpins : pins.holdIsCold = true → pins.powered = true ∧ pins.resetLow = true) (hmicros : s.micros < 1000)
    {n : Nat} (hi : s.interlock.Ready n) :
    State.AtBeginning { s.pinValues { Control.initial own cause with read := read } with pins := pins } :=
  ⟨hown, ⟨read, rfl, hread, hsome⟩, hpins, hmicros, rfl, rfl, rfl, rfl, rfl, rfl, rfl, _, (hi.pinReset (m := 3)), rfl⟩

theorem ownNumber_mem (straps : BitVec 4) : 1 ≤ ownNumber straps ∧ ownNumber straps ≤ 16 := by
  have := straps.isLt
  unfold ownNumber
  omega

section
variable {s : State} (h : s.Sound)
include h

theorem State.Sound.micros : s.micros < 1000 := h.fit.link.line.2.1

theorem State.Sound.own : 1 ≤ s.own ∧ s.own ≤ 16 := ⟨h.1.1, h.1.2.1⟩

theorem State.Sound.coldStart (straps : BitVec 4) : (s.coldStart straps).Sound := by
  unfold State.coldStart
  dsimp only
  split_ifs with hr
  · exact (State.atBeginning_cold (pins := { s.pins with powered := true, holdIsCold := s.pins.resetLow })
      (ownNumber_mem straps) (Timer.within_none _) (by simp [hr]) (fun _ => ⟨rfl, hr⟩)
      h.micros).sound
  · exact (State.atBeginning_cold (pins := { s.pins with powered := true, holdIsCold := s.pins.resetLow })
      (ownNumber_mem straps) (Timer.within_full _) (by simp [hr])
      (fun hc => absurd hc hr) h.micros).sound

theorem State.Sound.powerDown : s.powerDown.Sound :=
  (State.atBeginning_cold (read := none) h.own (Timer.within_none _) (by simp) (fun hc => by cases hc) h.micros).sound

theorem State.Sound.holdReset : s.holdReset.Sound := by
  have hcold : s.pins.holdIsCold = true → s.pins.powered = true ∧ true = true := by
    obtain ⟨-, -, -, -, -, -, -, -, -, -, -, -, h13⟩ := h.1
    exact fun hc => ⟨(h13 hc).1, rfl⟩
  exact (State.atBeginning_pin (read := none) h.own (Timer.within_none _) (by simp) hcold h.micros
    h.fit.interlock.ready).sound

theorem State.Sound.releaseReset (hp : s.pins.powered = true) (straps : BitVec 4) : (s.releaseReset straps).Sound := by
  have hread : (some Config.readTime).isSome ↔ (s.pins.powered && !false) = true := by simp [hp]
  unfold State.releaseReset
  split_ifs
  · exact (State.atBeginning_cold (pins := { s.pins with resetLow := false, holdIsCold := false })
      (ownNumber_mem straps) (Timer.within_full _) hread (fun hc => by cases hc)
      h.micros).sound
  · exact (State.atBeginning_pin (pins := { s.pins with resetLow := false, holdIsCold := false })
      (ownNumber_mem straps) (Timer.within_full _) hread (fun hc => by cases hc)
      h.micros h.fit.interlock.ready).sound

/-- Without power the RESET pin moves alone. -/
theorem State.Sound.movePin (hp : s.pins.powered = false) (b : Bool) :
    State.Sound { s with pins := { s.pins with resetLow := b } } := by
  obtain ⟨hfit, hcurrent⟩ := s.sound_iff.mp h
  have hawake : s.awake = false := by simp [State.awake, hp]
  have hawake' : State.awake { s with pins := { s.pins with resetLow := b } } = false := by simp [State.awake, hp]
  obtain ⟨hreading, -⟩ := hfit.waiting.1 hawake
  obtain ⟨-, -, -, -, -, harb, -⟩ := hfit.waiting.2 hreading
  refine (State.sound_iff _).mpr ⟨⟨?_, ⟨fun _ => hfit.waiting.1 hawake, hfit.waiting.2⟩, hfit.sensing,
    hfit.link.of_eq rfl rfl rfl, hfit.peers, hfit.demand, hfit.share, hfit.arbiter, hfit.output, hfit.interlock⟩, hcurrent⟩
  obtain ⟨h1, h2, h3, h4, h5, h6, h7, h8, h9, h10, h11, h12, h13⟩ := hfit.control
  refine ⟨h1, h2, h3, h4, h5, h6, h7, h8, h9, h10, ?_, h12, fun hc => ?_⟩
  · rw [hawake']
    rw [hawake] at h11
    exact h11
  · rw [(h13 hc).1] at hp
    cases hp

end

/-! ## The end of the configuration read -/

theorem Interlock.contactCloses_frame (i : Interlock) :
    i.contactCloses = { i with
      trip := i.contactCloses.trip, openDwell := i.contactCloses.openDwell, cooldown := i.contactCloses.cooldown } := by
  unfold Interlock.contactCloses
  split <;> rfl

/-- Taking the contact up moves the TRIP machine alone (R150). -/
theorem Interlock.takeUpContact_frame (b : Bool) (i : Interlock) :
    i.takeUpContact b = { i with
      trip := (i.takeUpContact b).trip, openDwell := (i.takeUpContact b).openDwell
      cooldown := (i.takeUpContact b).cooldown } := by
  cases b with
  | false => exact i.contactCloses_frame
  | true =>
    change i.contactOpens = { i with
      trip := i.contactOpens.trip, openDwell := i.contactOpens.openDwell, cooldown := i.contactOpens.cooldown }
    rw [Interlock.contactOpens_eq]

theorem Interlock.Ready.takeUpContact {n : Nat} {i : Interlock} (h : i.Ready n) (b : Bool) : (i.takeUpContact b).Ready n := by
  cases b with
  | false => exact h.contactCloses
  | true => exact h.contactOpens

/-- The station as the end of the read leaves it before the ceiling is handed on, the settings settled (R101, R124, R140,
R143, R150, R167, R168). -/
def State.configured (l : Loaded) (s : State) : State :=
  { s with
    control := { s.control with
      cfg := l.cfg, cfgDefault := l.cfgDefault, cfgClamped := l.cfgClamped, phase := .listening,
      listen := some (2 * l.cfg.period), read := none }
    arbiter := s.arbiter.takeUpDoor l.cfg s.pins.doorOpen
    output := { s.output with
      upDelay := some (Config.stepUp s.own), fanTickIn := some Config.fanPeriod,
      damperTickIn := some Config.damperPeriod }
    interlock := { s.interlock with discharge := l.cfg.stages }.takeUpContact s.pins.contactOpen }

theorem State.endRead_eq (bytes : List Byte) (s : State) :
    s.endRead bytes = (s.configured (settleConfiguration s.own bytes)).handCeiling := rfl

/-- The interlock unit of a station that reads its configuration, with S_n settled. -/
theorem Interlock.Ready.resize {n m : Nat} {i : Interlock} (h : i.Ready n) (hd : i.drop = none) (hr : i.rise = none) :
    Interlock.Ready m { i with discharge := m } :=
  .of_parts ⟨h.trips, h.unlocked, h.ordered, h.remembered, h.openDwell, h.openLength, h.cooldown, h.cooldownLength⟩
    ⟨h.coldDwell, h.coldLength, h.warmDwell, h.warmLength⟩ ⟨h.lowDwell, h.lowLength, h.recovery, h.recoveryLength⟩
    ⟨le_refl _, fun hs => (by simp [hd] at hs), h.dropLength, fun hs => (by simp [hr] at hs), h.riseLength⟩

theorem Arbiter.takeUpDoor_eq (cfg : Settings) (doorOpen : Bool) (a : Arbiter) :
    a.takeUpDoor cfg doorOpen =
      { a with dwell := if cfg.doorZone = true ∧ doorOpen = true then some 1000 else a.dwell } := by
  unfold Arbiter.takeUpDoor
  by_cases h : cfg.doorZone = true ∧ doorOpen = true
  · simp [h, Config.doorDwell]
  · rw [if_neg h, if_neg (by simpa using h)]

theorem Control.starting_of_reading {c : Control} (hr : c.reading = true) : c.state = .starting := by
  simp only [Control.reading, Bool.and_eq_true, beq_iff_eq] at hr
  exact hr.1

theorem State.configured_reading (l : Loaded) (s : State) : (s.configured l).control.reading = false := by
  simp [State.configured, Control.reading]

section
variable {s : State} (h : s.Fit) (hr : s.control.reading = true) {l : Loaded}
include h hr

theorem State.Fit.configured_control (hl : l.cfg.InRange) (hz : s.own ≤ l.cfg.zones) : (s.configured l).ControlSound := by
  have hst := Control.starting_of_reading hr
  obtain ⟨h1, h2, -, -, -, -, -, h8, h9, h10, -, -, h13⟩ := h.control
  refine ⟨h1, h2, hl, fun _ => hz, fun hp => (by cases hp), ⟨fun _ => ⟨hst, rfl⟩, fun _ => rfl⟩, Timer.within_full _, h8, h9,
    h10, ?_, Timer.within_none _, h13⟩
  rw [s.configured_reading l]
  exact ⟨fun hs => (by cases hs), fun hs => (by cases hs.2)⟩

theorem State.Fit.configured_interlock (l : Loaded) :
    (s.configured l).interlock.Ready l.cfg.stages ∧ (s.configured l).interlock.frost = .clear := by
  obtain ⟨-, -, -, -, -, -, -, hfrost, -, -, -, -, -, -, hdrop, hrise⟩ := h.waiting.2 hr
  refine ⟨(h.interlock.ready.resize hdrop hrise).takeUpContact _, ?_⟩
  change (Interlock.takeUpContact s.pins.contactOpen { s.interlock with discharge := l.cfg.stages }).frost = .clear
  rw [Interlock.takeUpContact_frame]
  exact hfrost

theorem State.Fit.configured_output (l : Loaded) : (s.configured l).OutputSound := by
  have hst : (s.configured l).control.state = .starting := by
    change s.control.state = .starting
    exact Control.starting_of_reading hr
  obtain ⟨-, -, -, -, -, hinitial, -⟩ := h.waiting.2 hr
  have ho : (s.configured l).output =
      { Output.initial with
        upDelay := some (Config.stepUp s.own), fanTickIn := some Config.fanPeriod
        damperTickIn := some Config.damperPeriod } := by
    rw [← hinitial]
    rfl
  obtain ⟨hflow, hstage⟩ := State.flowTargets_of_starting hst
  refine (State.outputSound_iff _).mpr ⟨⟨?_, ⟨?_, ?_, ?_, ?_, ?_, ?_⟩, ?_, ?_, ?_, ?_, ?_, ?_, ?_, ?_⟩, ?_,
    State.flowTargets_inRange_of_starting hst⟩
  all_goals simp only [State.TargetsTaken, hflow, hstage, s.configured_reading l, ho]
  · exact ⟨fun _ => rfl, fun hs => (by cases hs), fun hs => (by cases hs), ⟨fun hs => (by cases hs), fun hs => (by cases hs)⟩⟩
  · exact ⟨fun hp => absurd rfl hp, Nat.zero_le _⟩
  · exact Nat.zero_le _
  · exact fun hp => absurd hp (Nat.lt_irrefl 0)
  · exact Timer.within_full _
  · exact Timer.within_none _
  · exact Timer.within_none _
  · exact ⟨Nat.zero_le _, Nat.zero_le _, Nat.zero_le _, Nat.zero_le _⟩
  · exact ⟨Nat.zero_le _, Nat.zero_le _, Nat.zero_le _, Nat.zero_le _, Nat.zero_le _⟩
  · exact ⟨fun _ => trivial, fun _ => rfl⟩
  · exact Timer.within_full _
  · exact ⟨fun _ => trivial, fun _ => rfl⟩
  · exact Timer.within_full _
  · exact fun _ => rfl
  · exact fun _ => ⟨rfl, rfl⟩
  · exact ⟨rfl, rfl, rfl, rfl, rfl⟩

theorem State.Fit.configured_arbiter (l : Loaded) : (s.configured l).ArbiterSound := by
  have hst : (s.configured l).control.state = .starting := by
    change s.control.state = .starting
    exact Control.starting_of_reading hr
  obtain ⟨-, hpeers, -, -, hinitial, -⟩ := h.waiting.2 hr
  have ha : (s.configured l).arbiter =
      { Arbiter.initial with dwell := if l.cfg.doorZone = true ∧ s.pins.doorOpen = true then some 1000 else none } := by
    change s.arbiter.takeUpDoor l.cfg s.pins.doorOpen = _
    rw [Arbiter.takeUpDoor_eq, hinitial]
    rfl
  have hholds : (s.configured l).doorHolds = false := by
    have hp : (s.configured l).peers = .initial := hpeers
    simp [State.doorHolds, State.neighbourDoor, hp, ha, Peers.initial, Arbiter.initial]
  refine (State.arbiterSound_iff _).mpr ⟨⟨?_, ?_, ?_, ?_, ?_⟩, ?_⟩
  all_goals rw [ha]
  · obtain ⟨hl, htaken⟩ := Arbiter.initial.sound_iff.mp Arbiter.initial_sound
    refine (Arbiter.sound_iff _).mpr ⟨⟨hl.depth, hl.levels, hl.bottom, hl.last, hl.apart, hl.inForce, hl.timed, hl.lengths,
      ?_, hl.tail, hl.tailed⟩, htaken⟩
    dsimp only
    split_ifs
    · exact Timer.within_full _
    · exact Timer.within_none _
  · exact fun _ => ⟨rfl, rfl, rfl, rfl, rfl⟩
  · exact fun _ hs => by cases hs
  · exact fun hs => by cases hs
  · intro hs
    dsimp only at hs
    split_ifs at hs with hopen
    · exact hopen
    · cases hs
  · exact hholds.symm

end

/-- The end of the configuration read leaves the station sound (R167, R168). -/
theorem State.Sound.configured {s : State} (hs : s.Sound) (hawake : s.awake = true) (hr : s.control.reading = true) {l : Loaded}
    (hl : l.cfg.InRange) (hz : s.own ≤ l.cfg.zones) : (s.configured l).handCeiling.Sound := by
  have h := hs.fit
  have hst := Control.starting_of_reading hr
  obtain ⟨w1, w2, w3, w4, -⟩ := h.waiting.2 hr
  have hout := State.handCeiling_sound (h.configured_output hr l) (State.flowTargets_inRange_of_starting hst)
  have hinter := State.handCeiling_interlockSound (s := s.configured l) (h.configured_interlock hr l).1
  rw [State.handCeiling_frame] at hout hinter ⊢
  refine (State.sound_iff _).mpr ⟨⟨h.configured_control hr hl hz, ?_, State.sensingSound_initial w1, h.link.of_eq rfl rfl rfl,
    State.peersSound_initial w2, State.demandSound_initial w3 (.inl hst), State.shareSound_initial w4 w3,
    h.configured_arbiter hr l, hout, hinter⟩, ?_⟩
  · exact State.waitingSound_of_acting ((State.acting_iff _).mpr ⟨hawake, s.configured_reading l⟩)
  · intro r hr
    rw [show (s.configured l).link.reportSlot = none from (h.link.starting hst).1] at hr
    cases hr

theorem State.Sound.endRead {s : State} (hs : s.Sound) (hawake : s.awake = true) (hr : s.control.reading = true)
    (bytes : List Byte) : (s.endRead bytes).Sound := by
  obtain ⟨hl, hz⟩ := settleConfiguration_inRange bytes hs.own.2
  rw [State.endRead_eq]
  exact hs.configured hawake hr hl hz

end Sys2Proof.Machine
end

section
/-! The link controller's events, the requests and the line keep a station sound (chapter 2 and section 9.5). -/

namespace Sys2Proof.Machine

/-! ## Attempts -/

theorem Link.messageOver_eq (l : Link) :
    l.messageOver = { l with incoming := if l.attempt = none then none else l.incoming } := by
  unfold Link.messageOver
  split
  · next a ha =>
    rw [if_neg (by simp [ha])]
  · next ha => simp [ha]

theorem Link.idled_eq (l : Link) :
    l.idled = { l with line := .idle, incoming := if l.attempt = none then none else l.incoming } := by
  rw [Link.idled, Link.messageOver_eq]

theorem Link.heard_eq (l : Link) :
    l.heard = { l with line := .busy, incoming := if l.attempt = none then none else l.incoming } := by
  rw [Link.heard, Link.messageOver_eq]

theorem State.LinkReady.idled {s : State} (h : s.LinkReady) : State.LinkReady { s with link := s.link.idled } := by
  obtain ⟨⟨l1, l2, l3, l4⟩, h2, h3, h4, h5, h6, h7, h8⟩ := h
  rw [Link.idled_eq]
  refine ⟨⟨l1, l2, fun hu => (by cases hu), fun hs => ?_⟩, h2, h3, h4, h5, h6, h7, h8⟩
  dsimp only at hs ⊢
  rw [if_neg (Option.isSome_iff_ne_none.mp hs)]
  exact l4 hs

/-- The content of an attempt that can begin is its slot's (R20, R28). -/
theorem Link.ready_spec {mayReport : Bool} {l : Link} {c : Content} (h : l.ready mayReport = some c) :
    l.line = .idle ∧ l.attempt = none ∧ l.slotOf c = some c := by
  unfold Link.ready at h
  split at h
  · next hl ha =>
    refine ⟨hl, ha, ?_⟩
    unfold Link.nextContent at h
    split at h
    · next r hr =>
      cases h
      split_ifs at hr
      simp [Link.slotOf, hr]
    · next r _ hr =>
      cases h
      simp [Link.slotOf, hr]
    · cases h
  · cases h

theorem State.LinkReady.begin {s : State} (h : s.LinkReady) (mayReport : Bool) :
    State.LinkReady { s with link := s.link.begin mayReport } := by
  unfold Link.begin
  split
  · next c hc =>
    obtain ⟨-, hnone, hslot⟩ := Link.ready_spec hc
    obtain ⟨⟨l1, l2, -, -⟩, h2, h3, h4, h5, -, h7, h8⟩ := h
    refine ⟨⟨l1, l2, fun hu => (by cases hu), fun _ => rfl⟩, h2, h3, h4, h5, ?_, fun hch => ?_, h8⟩
    · rintro a ⟨⟩ -
      exact hslot
    · have := h7 hch
      simp [Link.sendingReport, hnone] at this
  · exact h

section
variable {l : Link} {a : Attempt} (ha : l.attempt = some a)
include ha

/-- What the completion of an attempt does, said once (R23, R28, R30). -/
theorem Link.complete_cases (cfg : Settings) :
    (a.live = false ∧ l.complete cfg = { l with attempt := none, line := .busy, incoming := none })
    ∨ (a.live = true ∧ a.content.isReport = false
        ∧ l.complete cfg =
          { l with attempt := none, line := .busy, incoming := none, replySlot := none, replyCount := 0 })
    ∨ (a.live = true ∧ a.content.isReport = true
        ∧ l.complete cfg =
          { l with
            attempt := none, line := .busy, incoming := none, reportSlot := none, reportCount := 0, sinceReport := some 0
            sinceDiscard := none, changed := false
            earlyIn := if l.changed = true then some (cfg.period / 4) else none }) := by
  obtain ⟨content, live⟩ := a
  cases live with
  | false => exact .inl ⟨rfl, by simp [Link.complete, ha]⟩
  | true =>
    cases content with
    | reply r => exact .inr (.inl ⟨rfl, rfl, by simp [Link.complete, ha]⟩)
    | report r => exact .inr (.inr ⟨rfl, rfl, by simp [Link.complete, ha]⟩)

/-- What the failure of an attempt does, said once (R21, R22, R24, R35). -/
theorem Link.fail_cases :
    (a.live = false ∧ l.fail = { l with attempt := none, line := .busy })
    ∨ (a.live = true ∧ a.content.isReport = false
        ∧ l.fail = if l.replyCount + 1 < 16 then { l with attempt := none, line := .busy, replyCount := l.replyCount + 1 }
                   else { l with attempt := none, line := .busy, replySlot := none, replyCount := 0 })
    ∨ (a.live = true ∧ a.content.isReport = true
        ∧ l.fail = if l.reportCount + 1 < 16 then
                     { l with attempt := none, line := .busy, changed := false, reportCount := l.reportCount + 1 }
                   else
                     { l with
                       attempt := none, line := .busy, changed := false, reportSlot := none, reportCount := 0
                       sinceDiscard := some 0 }) := by
  obtain ⟨content, live⟩ := a
  cases live with
  | false => exact .inl ⟨rfl, by simp [Link.fail, ha]⟩
  | true =>
    cases content with
    | reply r => exact .inr (.inl ⟨rfl, rfl, by simp [Link.fail, ha, Config.maxFailures]; rfl⟩)
    | report r => exact .inr (.inr ⟨rfl, rfl, by simp [Link.fail, ha, Config.maxFailures]; rfl⟩)

end

theorem Link.complete_of_none (cfg : Settings) {l : Link} (h : l.attempt = none) : l.complete cfg = l := by
  simp [Link.complete, h]

theorem Link.fail_of_none {l : Link} (h : l.attempt = none) : l.fail = l := by simp [Link.fail, h]

/-- A report that is being sent is in its slot. -/
theorem State.LinkReady.report_held {s : State} (h : s.LinkReady) {a : Attempt} (ha : s.link.attempt = some a)
    (hl : a.live = true) (hr : a.content.isReport = true) : s.link.reportSlot.isSome := by
  have hslot := h.attempt a ha hl
  obtain ⟨content, live⟩ := a
  cases content with
  | reply r => cases hr
  | report r =>
    obtain ⟨q, hq, -⟩ := Option.map_eq_some_iff.mp hslot
    simp [hq]

theorem State.LinkReady.reply_held {s : State} (h : s.LinkReady) {a : Attempt} (ha : s.link.attempt = some a)
    (hl : a.live = true) (hr : a.content.isReport = false) : s.link.replySlot.isSome := by
  have hslot := h.attempt a ha hl
  obtain ⟨content, live⟩ := a
  cases content with
  | report r => cases hr
  | reply r =>
    obtain ⟨q, hq, -⟩ := Option.map_eq_some_iff.mp hslot
    simp [hq]

/-- A station that sends a report is not in STARTING. -/
theorem State.LinkReady.not_starting {s : State} (h : s.LinkReady) (hr : s.link.reportSlot.isSome) :
    s.control.state ≠ .starting := by
  intro hst
  simp [(h.starting hst).1] at hr

/-- Where no attempt of a report is in progress no change is noted. -/
theorem State.LinkReady.unchanged {s : State} (h : s.LinkReady) (hs : s.link.sendingReport = false) :
    s.link.changed = false := by
  cases hc : s.link.changed with
  | false => rfl
  | true => rw [h.changed hc] at hs; cases hs

theorem Link.sendingReport_of_attempt {l : Link} {a : Attempt} (ha : l.attempt = some a) :
    l.sendingReport = (a.live && a.content.isReport) := by
  obtain ⟨content, live⟩ := a
  cases content <;> simp [Link.sendingReport, ha, Content.isReport]

theorem State.LinkReady.complete {s : State} (h : s.LinkReady) :
    State.LinkReady { s with link := s.link.complete s.cfg } := by
  cases ha : s.link.attempt with
  | none => rwa [Link.complete_of_none _ ha]
  | some a =>
    have hsending := Link.sendingReport_of_attempt ha
    have hheld := h.report_held ha
    have hnot := h.not_starting
    have hunchanged := h.unchanged
    obtain ⟨⟨l1, l2, -, -⟩, h2, h3, h4, h5, -, -, h8⟩ := h
    obtain ⟨hl, he⟩ | ⟨hl, hr, he⟩ | ⟨hl, hr, he⟩ := Link.complete_cases ha s.cfg <;> rw [he]
    · have hc := hunchanged (by rw [hsending, hl]; rfl)
      exact ⟨⟨l1, l2, fun hu => (by cases hu), fun hs => (by cases hs)⟩, h2, h3, h4, h5, fun b hb => (by cases hb),
        fun hs => absurd (hc.symm.trans hs) (by decide), h8⟩
    · have hc := hunchanged (by rw [hsending, hr, Bool.and_false])
      exact ⟨⟨l1, l2, fun hu => (by cases hu), fun hs => (by cases hs)⟩, h2, Nat.succ_pos 15, h4, fun _ => rfl,
        fun b hb => (by cases hb), fun hs => absurd (hc.symm.trans hs) (by decide), h8⟩
    · exact ⟨⟨l1, l2, fun hu => (by cases hu), fun hs => (by cases hs)⟩, Nat.succ_pos 15, h3, fun _ => rfl, h5,
        fun b hb => (by cases hb), fun hs => (by cases hs), fun hst => absurd hst (hnot (hheld hl hr))⟩

theorem State.LinkReady.fail {s : State} (h : s.LinkReady) : State.LinkReady { s with link := s.link.fail } := by
  cases ha : s.link.attempt with
  | none => rwa [Link.fail_of_none ha]
  | some a =>
    have hsending := Link.sendingReport_of_attempt ha
    have hheld := h.report_held ha
    have hreply := h.reply_held ha
    have hnot := h.not_starting
    have hunchanged := h.unchanged
    obtain ⟨⟨l1, l2, l3, -⟩, h2, h3, h4, h5, -, -, h8⟩ := h
    obtain ⟨hl, he⟩ | ⟨hl, hr, he⟩ | ⟨hl, hr, he⟩ := Link.fail_cases ha <;> rw [he]
    · have hc := hunchanged (by rw [hsending, hl]; rfl)
      exact ⟨⟨l1, l2, fun hu => (by cases hu), fun hs => (by cases hs)⟩, h2, h3, h4, h5, fun b hb => (by cases hb),
        fun hs => absurd (hc.symm.trans hs) (by decide), h8⟩
    · have hc := hunchanged (by rw [hsending, hr, Bool.and_false])
      have hsome := hreply hl hr
      split_ifs with hlt
      · exact ⟨⟨l1, l2, fun hu => (by cases hu), fun hs => (by cases hs)⟩, h2, hlt, h4,
          fun hn => absurd hn (Option.isSome_iff_ne_none.mp hsome), fun b hb => (by cases hb),
          fun hs => absurd (hc.symm.trans hs) (by decide), h8⟩
      · exact ⟨⟨l1, l2, fun hu => (by cases hu), fun hs => (by cases hs)⟩, h2, Nat.succ_pos 15, h4, fun _ => rfl,
          fun b hb => (by cases hb), fun hs => absurd (hc.symm.trans hs) (by decide), h8⟩
    · have hsome := hheld hl hr
      have hst := hnot hsome
      split_ifs with hlt
      · exact ⟨⟨l1, l2, fun hu => (by cases hu), fun hs => (by cases hs)⟩, hlt, h3,
          fun hn => absurd hn (Option.isSome_iff_ne_none.mp hsome), h5, fun b hb => (by cases hb), fun hs => (by cases hs), h8⟩
      · exact ⟨⟨l1, l2, fun hu => (by cases hu), fun hs => (by cases hs)⟩, Nat.succ_pos 15, h3, fun _ => rfl, h5,
          fun b hb => (by cases hb), fun hs => (by cases hs), fun hst' => absurd hst' hst⟩

/-! ## The forms of the line's events -/

/-- A change of the link controller keeps the station sound where it keeps the link controller ready and the OK reply to
RESTART where it is. -/
theorem State.onLine_sound {s : State} (hs : s.Sound) {f : Link → Link}
    (hl : State.LinkReady { s with link := f s.link })
    (hok : s.link.holdsRestartOk = true → (f s.link).holdsRestartOk = true) : (s.onLine f).Sound := by
  unfold State.onLine
  split_ifs with ha
  · have h := hs.fit
    obtain ⟨h1, h2, h3, h4, h5, h6, h7, h8, h9, h10, h11⟩ := h.control
    have hc : State.ControlSound { s with link := f s.link } :=
      ⟨h1, h2, h3, h4, h5, h6, h7, h8, h9, fun hp => ⟨(h10 hp).1, hok (h10 hp).2⟩, h11⟩
    exact State.Fit.watch (s := { s with link := f s.link }) ⟨hc,
      ⟨fun hf => absurd ha (by rw [show s.awake = false from hf]; decide), h.waiting.2⟩, h.sensing, hl, h.peers, h.demand,
      h.share, h.arbiter, h.output, h.interlock⟩ s
  · exact hs

theorem State.unpending_linkReady {s : State} (h : s.LinkReady) : s.unpending.LinkReady := h.of_eq rfl rfl rfl

/-- The end of an attempt keeps the station sound, the restart settled where it lets go of the OK reply (R176). -/
theorem State.endAttempt_sound {s : State} (hs : s.Sound) {f : Link → Link}
    (hl : State.LinkReady { s with link := f s.link }) : (s.endAttempt f).Sound := by
  unfold State.endAttempt
  split_ifs with ha
  · have hsound : (s.onLine f).unpending.Sound := by
      have hfit : State.Fit { s.unpending with link := f s.link } :=
        hs.unpending.fit.withLink ha rfl (State.unpending_linkReady hl)
      rw [State.onLine, if_pos ha]
      exact hfit.watch s.unpending
    refine State.settleRestart_sound hsound fun hp => ?_
    obtain ⟨-, -, -, -, -, -, -, -, -, h10, -⟩ := hs.1
    rw [State.onLine, if_pos ha] at hp ⊢
    exact (h10 hp).1
  · exact hs

theorem State.LinkReady.fill {s : State} (h : s.LinkReady) (hs : s.control.state ≠ .starting) (r : ReportBody) :
    State.LinkReady { s with link := s.link.fill r } := by
  have hheld : ∀ a, s.link.attempt = some a → a.live = true → a.content.isReport = true → s.link.reportSlot.isSome :=
    fun a => h.report_held
  obtain ⟨h1, h2, h3, h4, h5, h6, h7, -⟩ := h
  unfold Link.fill
  split
  · exact ⟨h1, h2, h3, h4, h5, h6, h7, fun hst => absurd hst hs⟩
  · next hnone =>
    refine ⟨h1, Nat.succ_pos 15, h3, fun _ => rfl, h5, fun a ha hl => ?_, h7, fun hst => absurd hst hs⟩
    have hslot := h6 a ha hl
    have hno := hheld a ha hl
    obtain ⟨content, live⟩ := a
    cases content with
    | report q =>
      have := hno rfl
      simp [hnone] at this
    | reply q => exact hslot

theorem State.Fit.fillReport {s : State} (h : s.Fit) : s.fillReport.Fit := by
  unfold State.fillReport
  split_ifs with hr
  · have hst := s.reports_iff.mp hr
    have ha : s.acting = true := h.acting_of_not_reading (by simp [Control.reading, hst])
    have hok : (s.link.fill s.report).holdsRestartOk = s.link.holdsRestartOk := by
      unfold Link.fill
      split <;> rfl
    obtain ⟨h1, h2, h3, h4, h5, h6, h7, h8, h9, h10, h11⟩ := h.control
    exact ⟨⟨h1, h2, h3, h4, h5, h6, h7, h8, h9, fun hp => ⟨(h10 hp).1, hok.trans (h10 hp).2⟩, h11⟩,
      State.waitingSound_of_acting ha, h.sensing, h.link.fill hst _, h.peers, h.demand, h.share, h.arbiter, h.output,
      h.interlock⟩
  · exact h

/-! ## Replies and requests -/

theorem Link.answer_eq (r : Reply) (l : Link) :
    l.answer r = { l with
      replySlot := some r, replyCount := 0
      attempt := l.attempt.map fun a => { a with live := a.live && a.content.isReport } } := by
  unfold Link.answer
  cases hl : l.attempt with
  | none => rfl
  | some a =>
    obtain ⟨content, live⟩ := a
    cases content <;> simp [Content.isReport]

@[simp] theorem Link.answer_sendingReport (r : Reply) (l : Link) : (l.answer r).sendingReport = l.sendingReport := by
  rw [Link.answer_eq]
  cases hl : l.attempt with
  | none => simp [Link.sendingReport, hl]
  | some a =>
    rw [Link.sendingReport_of_attempt hl, Link.sendingReport_of_attempt (a := { a with live := a.live && a.content.isReport }) (by simp)]
    cases a.live <;> cases a.content.isReport <;> rfl

theorem State.LinkReady.reply {s : State} (h : s.LinkReady) (k : RequestKind) (r : Result) (p : List Byte) :
    (s.reply k r p).LinkReady := by
  have hsending := Link.answer_sendingReport { kind := k, result := r, payload := p } s.link
  obtain ⟨⟨l1, l2, l3, l4⟩, h2, h3, h4, h5, h6, h7, h8⟩ := h
  unfold State.reply
  rw [Link.answer_eq] at hsending ⊢
  refine ⟨⟨l1, l2, fun hu => ⟨(l3 hu).1, by simp [(l3 hu).2]⟩, fun hs => l4 (by simpa using hs)⟩, h2, Nat.succ_pos 15, h4,
    fun _ => rfl, ?_, fun hc => hsending.trans (h7 hc), h8⟩
  intro a ha hl
  obtain ⟨b, hb, rfl⟩ := Option.map_eq_some_iff.mp ha
  simp only [Bool.and_eq_true] at hl
  have hslot := h6 b hb hl.1
  obtain ⟨content, live⟩ := b
  cases content with
  | report q => exact hslot
  | reply q => cases hl.2

/-- A reply leaves a fit station fit, a pending restart being one whose OK it is. -/
theorem State.Fit.reply {s : State} (h : s.Fit) (ha : s.awake = true) {k : RequestKind} {r : Result}
    (hp : s.control.restartPending = false) (p : List Byte) : (s.reply k r p).Fit :=
  h.withLink ha hp (h.link.reply k r p)

theorem State.reply_current {s : State} (h : s.ReportCurrent) (k : RequestKind) (r : Result) (p : List Byte) :
    (s.reply k r p).ReportCurrent := by
  intro q hq hs
  rw [State.reply_link', Link.answer_sendingReport] at hs
  rw [State.reply_link', Link.answer_eq] at hq
  exact h q hq hs

/-- A request leaves the station sound: dropped, answered BUSY with the restart settled, or judged (R27, R172, R176). -/
theorem State.onRequest_sound {kind : RequestKind} {target : Fin 32} {f : State → State} {s : State} (hs : s.Sound)
    (hf : s.hears.Fit → s.hears.acting = true → s.hears.control.restartPending = false → (f s.hears).Fit) :
    (s.onRequest kind target f).Sound := by
  unfold State.onRequest
  split_ifs with ha ht hb
  · have hawake : s.awake = true := by simp [State.attentive] at ha; exact ha.1
    have hheard := hs.hears ha
    have hunpending := hheard.unpending
    obtain ⟨hfit, hcurrent⟩ := (State.sound_iff _).mp hunpending
    have hsound : (s.hears.reply kind .busy []).unpending.Sound :=
      (State.sound_iff _).mpr ⟨hfit.reply hawake rfl [], State.reply_current hcurrent _ _ _⟩
    refine State.settleRestart_sound hsound fun hp => ?_
    obtain ⟨-, -, -, -, -, -, -, -, -, h10, -⟩ := hs.1
    exact (h10 hp).1
  · simp only [Bool.or_eq_true, not_or, Bool.not_eq_true] at hb
    refine (hf (hs.hears ha).fit ?_ hb.2).watch s
    simp only [State.attentive, Bool.and_eq_true] at ha
    exact (State.acting_iff _).mpr ⟨ha.1, hb.1⟩
  · exact hs.hears ha
  · exact hs

/-! ## The judged requests -/

section
variable {s : State} (h : s.Fit) (ha : s.acting = true) (hp : s.control.restartPending = false)
include h ha hp

theorem State.Fit.reply_acting (k : RequestKind) (r : Result) (p : List Byte) : (s.reply k r p).Fit :=
  h.reply (s.acting_iff.mp ha).1 hp p

theorem State.Fit.answerPeer (argument : Nat) : (s.answerPeer argument).Fit := by
  unfold State.answerPeer
  split
  · exact h.reply_acting ha hp _ _ _
  · exact h.reply_acting ha hp _ _ _

theorem State.Fit.endTestRequest : s.endTestRequest.Fit := by
  unfold State.endTestRequest
  split
  · exact (h.enterStandby ha).reply (s.acting_iff.mp ha).1 hp _
  all_goals exact h.reply_acting ha hp _ _ _

theorem State.Fit.clearLockRequest : s.clearLockRequest.Fit := by
  unfold State.clearLockRequest
  split
  · next hl =>
    refine (h.protect_acting ha (h.interlock.ready.clearLock hl _) rfl rfl).reply ?_ ?_ _
    · rw [State.awake, State.protect_pins]
      exact (s.acting_iff.mp ha).1
    · rw [State.protect_control]
      exact hp
  all_goals exact h.reply_acting ha hp _ _ _

/-- RESTART leaves the mark set, with its OK reply in the slot (R176). -/
theorem State.Fit.restartRequest : s.restartRequest.Fit := by
  have hawake := (s.acting_iff.mp ha).1
  have hmark : s.control.state ≠ .starting →
      (State.reply .restart .ok [] { s with control := { s.control with restartPending := true } }).Fit := by
    intro hst
    have hl := h.link.reply .restart .ok []
    obtain ⟨h1, h2, h3, h4, h5, h6, h7, h8, h9, -, h11⟩ := h.control
    refine ⟨⟨h1, h2, h3, h4, h5, h6, h7, h8, h9, fun _ => ⟨hst, ?_⟩, h11⟩, State.waitingSound_of_acting ha, h.sensing,
      hl.of_eq rfl rfl rfl, h.peers, h.demand, h.share, h.arbiter, h.output, h.interlock⟩
    rw [State.reply_link', Link.answer_eq]
    rfl
  unfold State.restartRequest
  split
  · next hs => exact hmark (by simp [hs])
  · next hs => exact hmark (by simp [hs])
  · next hs => exact hmark (by simp [hs])
  · exact h.reply_acting ha hp _ _ _

end

end Sys2Proof.Machine
end

section
/-! TEST_OUTPUT keeps a station sound, and with it every command (chapter 9, "What each step holds"). -/

namespace Sys2Proof.Machine

/-! ## TEST_OUTPUT -/

theorem testOutputOf_stage {argument k : Nat} (h : testOutputOf argument = some (.stage k)) : 1 ≤ k ∧ k ≤ 3 := by
  unfold testOutputOf at h
  split at h <;> simp at h <;> omega

theorem settings_make_inRange {stages value : Nat} {t : TestSettings} (h : t.InRange stages) {output : TestOutput}
    (ho : output.fitted stages = true) (hv : value ≤ 1000) : (t.make output value).InRange stages := by
  obtain ⟨h1, h2, h3, h4, h5⟩ := h
  cases output with
  | fan => exact ⟨hv, h2, h3, h4, h5⟩
  | evap => exact ⟨h1, hv, h3, h4, h5⟩
  | coolant => exact ⟨h1, h2, hv, h4, h5⟩
  | damper => exact ⟨h1, h2, h3, hv, h5⟩
  | stage k =>
    have hk : k ≤ stages := by simpa [TestOutput.fitted] using ho
    refine ⟨h1, h2, h3, h4, ?_⟩
    dsimp only [TestSettings.make]
    split_ifs <;> omega

/-- A setting made in TEST leaves an acting station fit. -/
theorem State.Primed.makeSetting_fit {s : State} (h : s.Primed) (hshare : s.ShareSound) (harb : s.ArbiterSound)
    (hs : s.control.state = .test) {output : TestOutput} (ho : output.fitted s.cfg.stages = true) {value : Nat}
    (hv : value ≤ 1000) : (s.makeSetting output value).Fit := by
  have hprimed : State.Primed { s with output := { s.output with settings := s.output.settings.make output value } } := by
    obtain ⟨o1, ⟨o2, o3, o4, o5, o6, o7⟩, o8, o9, o10, o11, o12, o13, o14, o15⟩ := h.output
    exact ⟨h.acting, h.control, h.sensing, h.link.of_eq rfl rfl rfl, h.peers, h.demand, h.hold.of_eq rfl rfl rfl rfl,
      ⟨o1, ⟨o2, o3, o4, o5, o6, o7⟩, o8, settings_make_inRange o9 ho hv, o10, o11, o12, o13, o14, o15⟩, h.interlock⟩
  have hfit := hprimed.takeTargets_fit hshare harb
  have hcoolant := hfit.output.flow.2.2.1
  have hpos := hfit.output.ready.positions.2.1
  rw [← hfit.output.taken.2.2.2.1] at hcoolant
  have hshut : ¬(s.control.state = .starting ∨ s.control.state = .standby) := by simp [hs]
  exact hfit.withOutput h.acting (hfit.output.moveValves hpos hcoolant hfit.output.ready.frost
    fun hn => absurd hn hshut)

/-- Outside STARTING the listen period is over. -/
theorem State.ControlSound.listen_none {s : State} (h : s.ControlSound) (hs : s.control.state ≠ .starting) :
    s.control.listen = none := by
  obtain ⟨-, -, -, -, -, hlisten, -⟩ := h
  cases hl : s.control.listen with
  | none => rfl
  | some left => exact absurd (hlisten.mp (by simp [hl])).1 hs

/-- In STANDBY no hold runs. -/
theorem State.ShareSound.hold_none {s : State} (h : s.ShareSound) (hs : s.control.state = .standby) : s.share.hold = none := by
  obtain ⟨-, -, -, -, -, -, -, -, -, -, -, -, -, -, -, hhold, -⟩ := h
  cases hl : s.share.hold with
  | none => rfl
  | some left => simpa [hs] using hhold (by simp [hl])

/-- The entry to TEST, before its first setting. -/
theorem State.Fit.enterTest {s : State} (h : s.Fit) (ha : s.acting = true) (hs : s.control.state = .standby) :
    s.enterTest.Primed ∧ s.enterTest.ShareSound ∧ s.enterTest.ArbiterSound := by
  have hlisten := h.control.listen_none (by simp [hs])
  have hhold := h.share.hold_none hs
  have hcontrol : s.enterTest.ControlSound :=
    h.control.enter ha (state := .test) (test := some 120000) (by decide) (by simp) (Timer.within_full _)
      (by simp [State.enterTest, ← hlisten, Config.testTime]) rfl rfl
  have hr : s.control.reading = false := (s.acting_iff.mp ha).2
  have hrd : s.enterTest.control.reading = false := by simp [State.enterTest, Control.reading]
  have hact : s.enterTest.acting = true := (State.acting_iff _).mpr ⟨(s.acting_iff.mp ha).1, hrd⟩
  have hshare : s.enterTest.ShareSound := by
    obtain ⟨h1, h2, h3, h4, h5, h6, h7, h8, h9, h10, h11, h12, h13, h14, h15, -, h17⟩ := h.share
    exact ⟨h1, h2, h3, h4, h5, h6, h7, h8, h9, h10, h11, h12, h13, h14, h15, fun _ => .inr rfl, h17⟩
  refine ⟨⟨hact, hcontrol, h.sensing, h.link.enter rfl rfl (show StationState.test ≠ .starting by decide), h.peers, ?_,
    hshare.hold, ?_, h.interlock⟩, hshare, ?_⟩
  · obtain ⟨-, -, -, hready⟩ := s.demandSound_iff.mp h.demand
    exact (State.demandSound_iff _).mpr ⟨⟨fun _ => .inr rfl, fun _ => rfl⟩, Timer.within_full _,
      fun hn => (by rcases hn with hn | hn <;> cases hn), hready⟩
  · obtain ⟨o1, ⟨o2, o3, o4, o5, o6, o7⟩, o8, o9, o10, o11, o12, o13, o14, -⟩ := h.output.ready
    exact ⟨o1, ⟨o2, o3, o4, o5, o6, o7⟩, o8, ⟨Nat.zero_le _, Nat.zero_le _, Nat.zero_le _, Nat.zero_le _, Nat.zero_le _⟩,
      by rw [hrd]; rw [hr] at o10; exact o10, o11, by rw [hrd]; rw [hr] at o12; exact o12, o13, o14,
      fun hn => (by rcases hn with hn | hn <;> cases hn)⟩
  · obtain ⟨a1, a2, -, a4⟩ := h.arbiter
    exact ⟨a1, fun _ => a2 (by simp [hs]), fun hn => (by cases hn), a4⟩

/-- The test timer started again. -/
theorem State.Fit.restartTestTimer {s : State} (h : s.Fit) (ha : s.acting = true) (hs : s.control.state = .test) :
    State.Fit { s with control := { s.control with test := some Config.testTime } } := by
  obtain ⟨h1, h2, h3, h4, h5, h6, h7, -, -, h10⟩ := h.control
  exact ⟨⟨h1, h2, h3, h4, h5, h6, h7, ⟨fun _ => hs, fun _ => rfl⟩, Timer.within_full _, h10⟩, State.waitingSound_of_acting ha,
    h.sensing, h.link.of_eq rfl rfl rfl, h.peers, h.demand, h.share, h.arbiter, h.output, h.interlock⟩

section
variable {s : State} (h : s.Fit) (ha : s.acting = true) (hp : s.control.restartPending = false)
include h ha hp

theorem State.Fit.testFitted {output : TestOutput} (ho : output.fitted s.cfg.stages = true) {value : Nat} (hv : value ≤ 1000) :
    (s.testFitted output value).Fit := by
  have hawake := (s.acting_iff.mp ha).1
  unfold State.testFitted
  split
  · next hs =>
    obtain ⟨hprimed, hshare, harb⟩ := h.enterTest ha hs
    exact (hprimed.makeSetting_fit hshare harb rfl ho hv).reply hawake hp _
  · next hs =>
    have hfit := h.restartTestTimer ha hs
    exact ((hfit.primed ha).makeSetting_fit hfit.share hfit.arbiter hs ho hv).reply hawake hp _
  all_goals exact h.reply_acting ha hp _ _ _

theorem State.Fit.testRequest (argument : Nat) {value : Nat} (hv : value ≤ 1000) : (s.testRequest argument value).Fit := by
  unfold State.testRequest
  split
  · split_ifs with ho
    · exact h.testFitted ha hp ho hv
    · exact h.reply_acting ha hp _ _ _
  · exact h.reply_acting ha hp _ _ _

end

/-! ## The due events -/

/-- A running report timer, dwell or delay is one of a station in which it may run. -/
theorem State.Fit.acting_of_timers {s : State} (h : s.Fit)
    (ht : s.peers.duplicate.isSome ∨ s.peers.panel.silence.isSome ∨ s.peers.budget.silence.isSome
      ∨ s.peers.plant.silence.isSome ∨ s.share.hold.isSome ∨ s.output.upDelay.isSome ∨ s.output.downDelay.isSome
      ∨ s.output.proof.left.isSome ∨ s.output.afterRun.isSome ∨ s.output.fanTickIn.isSome
      ∨ s.output.damperTickIn.isSome) : s.acting = true := by
  refine h.acting_of_not_reading (Bool.eq_false_iff.mpr fun hr => ?_)
  obtain ⟨-, h1, -, h3, -, h5, -⟩ := h.waiting.2 hr
  simp [h1, h3, h5, Peers.initial, Share.initial, Output.initial, FanProof.left] at ht

/-- A running dwell of the interlock unit, but for the cooldown, is one of a station that acts. -/
theorem State.Fit.acting_of_dwells {s : State} (h : s.Fit)
    (ht : s.interlock.openDwell.isSome ∨ s.interlock.coldDwell.isSome ∨ s.interlock.warmDwell.isSome
      ∨ s.interlock.lowDwell.isSome ∨ s.interlock.recovery.isSome ∨ s.interlock.drop.isSome
      ∨ s.interlock.rise.isSome) : s.acting = true := by
  refine h.acting_of_not_reading (Bool.eq_false_iff.mpr fun hr => ?_)
  obtain ⟨-, -, -, -, -, -, h1, -, h3, h4, -, h6, h7, -, h9, h10⟩ := h.waiting.2 hr
  simp [h1, h3, h4, h6, h7, h9, h10] at ht

end Sys2Proof.Machine
end

section
/-! Every command keeps a station sound ("What each step holds"). -/

namespace Sys2Proof.Machine

/-! ## The trip machine while the station waits -/

/-- An output stage at its first values takes the targets of STARTING as it is. -/
theorem Output.initial_takes (own : Nat) :
    ((Output.initial.takeFlow { fan := 0, evap := 0, coolant := 0, damper := 0 }).takeStageTarget own 0) = Output.initial := rfl

/-- While the station waits its ceiling moves no stage. -/
theorem State.handCeiling_of_waiting {s : State} (hs : s.control.state = .starting) (ho : s.output = .initial) :
    s.handCeiling.output = .initial := by
  obtain ⟨-, he⟩ | ⟨-, hlt, -⟩ | ⟨-, -, he⟩ := s.handCeiling_cases
  · rw [he, ho]
  · rw [ho] at hlt
    cases hlt
  · obtain ⟨hflow, hstage⟩ := State.flowTargets_of_starting (s := s.ceiled) hs
    rw [he, State.takeTargets, hflow, hstage]
    change ((s.output.takeFlow _).takeStageTarget _ 0) = _
    rw [ho]
    exact Output.initial_takes _

/-- A change of the trip machine alone leaves a waiting station waiting (R154, R165). -/
theorem State.Fit.protect_trip {s : State} (h : s.Fit) {f : Interlock → Interlock} {trip : TripState} {cooldown : Timer}
    {tripList : List Nat}
    (hf : f s.interlock = { s.interlock with trip := trip, cooldown := cooldown, tripList := tripList })
    (hready : (f s.interlock).Ready s.cfg.stages) : (s.protect f).Fit := by
  refine h.protect hready (by rw [hf]) (by rw [hf]) ⟨fun ha => ?_, fun hr => ?_⟩
  · rw [State.awake, State.protect_pins] at ha
    rw [State.protect_control, State.protect_link]
    exact h.waiting.1 ha
  · rw [State.protect_control] at hr
    obtain ⟨h1, h2, h3, h4, h5, h6, hrest⟩ := h.waiting.2 hr
    have hout : (s.protect f).output = .initial :=
      State.handCeiling_of_waiting (s := { s with interlock := f s.interlock }) (Control.starting_of_reading hr) h6
    refine ⟨by rw [State.protect_sensing, h1], by rw [State.protect_peers, h2], by rw [State.protect_demand, h3],
      by rw [State.protect_share, h4], by rw [State.protect_arbiter, h5], hout, ?_⟩
    rw [State.protect, State.handCeiling_frame, hf]
    exact hrest

/-! ## The peer table's ages at their ends -/

theorem State.PeersSound.nodup {s : State} (h : s.PeersSound) : (s.peers.table.map (·.number)).Nodup :=
  h.1.imp fun hlt => Nat.ne_of_lt hlt

/-- A number's entry is the only one of its number, and it is as old as it was with the time passed (R40). -/
theorem State.PeersSound.aged {s : State} (h : s.PeersSound) {number : Nat} {e : Entry}
    (he : entryFor number s.peers.table = some e) (left : Nat) {x : Entry} (hx : x ∈ (s.elapse left).peers.table)
    (hn : x.number = number) : x.age = max e.age (min (e.age + left) (12 * s.cfg.period)) := by
  obtain ⟨y, hy, rfl⟩ := List.mem_map.mp hx
  have hsome := (entryFor_eq_some_iff h.nodup).mpr ⟨hy, hn⟩
  rw [he] at hsome
  cases hsome
  rfl

section
variable {s : State} (hs : s.Sound)
include hs

/-- A station with an entry in its table acts. -/
theorem State.Sound.acting_of_entry {number : Nat} {e : Entry} (he : entryFor number s.peers.table = some e) :
    s.acting = true :=
  hs.fit.acting_of_peers fun hp => by simp [hp, Peers.initial, entryFor] at he

theorem State.Sound.entryStale (number : Nat) :
    (s.onExpiry (s.staleIn number) (State.stand number .stale)).Sound := by
  refine State.onExpiry_sound hs fun left hleft => ?_
  unfold State.staleIn at hleft
  split at hleft
  · next e he =>
    split at hleft
    · refine (hs.fit.elapse left).stand (hs.acting_of_entry he) fun x hx hn => ⟨fun _ => ?_, fun hl => (by cases hl)⟩
      have hage := hs.fit.peers.aged he left hx hn
      simp only [staleAge, Option.some.injEq] at hleft
      change 3 * s.cfg.period ≤ x.age
      omega
    · cases hleft
    · cases hleft
  · cases hleft

theorem State.Sound.entryLost (number : Nat) :
    (s.onExpiry (s.lostIn number) (State.stand number .lost)).Sound := by
  refine State.onExpiry_sound hs fun left hleft => ?_
  have hlost : ∀ e, entryFor number s.peers.table = some e → lostAge s.cfg - e.age = left →
      (State.stand number .lost (s.elapse left)).Fit := by
    intro e he hl
    refine (hs.fit.elapse left).stand (hs.acting_of_entry he) fun x hx hn => ⟨fun hst => (by cases hst), fun _ => ?_⟩
    have hage := hs.fit.peers.aged he left hx hn
    obtain ⟨-, hentry, -⟩ := hs.fit.peers
    obtain ⟨-, -, -, hle, -⟩ := hentry e ((entryFor_eq_some_iff hs.fit.peers.nodup).mp he).1
    simp only [lostAge] at hl
    change x.age = 12 * s.cfg.period
    omega
  unfold State.lostIn at hleft
  split at hleft
  · next e he =>
    split at hleft
    · exact hlost e he (Option.some.inj hleft)
    · exact hlost e he (Option.some.inj hleft)
    · cases hleft
  · cases hleft

/-! ## Timers of a station that acts -/

/-- The expiry of a timer that runs only while the station acts. -/
theorem State.Sound.expiry {t : Timer} {f : State → State} (hrun : t.isSome → s.acting = true)
    (hf : ∀ left, t = some left → (s.elapse left).Fit → (s.elapse left).acting = true → (f (s.elapse left)).Fit) :
    (s.onExpiry t f).Sound :=
  State.onExpiry_sound hs fun left hleft => hf left hleft (hs.fit.elapse left) (hrun (by simp [hleft]))

/-- The expiry of a dwell of the interlock unit, its ceiling handed on. -/
theorem State.Sound.protects {t : Timer} {f : Interlock → Interlock} (hrun : t.isSome → s.acting = true)
    (hf : ∀ left, t = some left → (s.elapse left).interlock.Ready s.cfg.stages →
      (f (s.elapse left).interlock).Ready s.cfg.stages)
    (hframe : ∀ i : Interlock, (f i).ceiling = i.ceiling ∧ (f i).frost = i.frost) :
    (s.onExpiry t (State.protect f)).Sound :=
  hs.expiry hrun fun left hleft hfit ha =>
    hfit.protect_acting ha (hf left hleft hfit.interlock.ready) (hframe _).1 (hframe _).2

end

end Sys2Proof.Machine
end

section
/-! Every command keeps a station sound ("What each step holds"): the commands one by one. -/

namespace Sys2Proof.Machine

/-! ## The end of the listen period -/

/-- The entries to STANDBY and to RUNNING do not read the link controller. -/
theorem State.enterStandby_listened (s : State) (x : Timer) (l : Link) :
    State.enterStandby { s with control := { s.control with listen := x }, link := l } = { s.enterStandby with link := l } := rfl

/-- The arbiter's changes are handed on without the link controller. -/
theorem State.arbitrate_withLink (f : Arbiter → Arbiter) (s : State) (l : Link) :
    State.arbitrate f { s with link := l } = { s.arbitrate f with link := l } := by
  unfold State.arbitrate
  dsimp only
  split_ifs <;> rfl

theorem State.enterRunning_listened (s : State) (x : Timer) (l : Link) :
    State.enterRunning { s with control := { s.control with listen := x }, link := l } = { s.enterRunning with link := l } :=
  congrArg State.takeTargets (State.arbitrate_withLink (Arbiter.raiseAtEntry s.peers.panel.mode) s.setOff l)

/-- The first report's time fixed in a station that reports (R34). -/
theorem State.Fit.setFirst {s : State} (h : s.Fit) (ha : s.acting = true) (hs : s.control.state ≠ .starting) (t : Timer) :
    State.Fit { s with link := { s.link with firstIn := t } } := by
  obtain ⟨l1, l2, l3, l4, l5, l6, l7, -⟩ := h.link
  exact ⟨h.control, State.waitingSound_of_acting ha, h.sensing,
    ⟨l1, l2, l3, l4, l5, l6, l7, fun hst => absurd hst hs⟩, h.peers, h.demand, h.share, h.arbiter, h.output, h.interlock⟩

theorem State.enterRunning_acting {s : State} (ha : s.awake = true) : s.enterRunning.acting = true := by
  refine (State.acting_iff _).mpr ⟨?_, ?_⟩
  · rw [State.awake, State.enterRunning_pins]
    exact ha
  · simp [Control.reading]

theorem State.enterStandby_acting {s : State} (ha : s.awake = true) : s.enterStandby.acting = true := by
  refine (State.acting_iff _).mpr ⟨?_, ?_⟩
  · rw [State.awake, State.enterStandby_pins]
    exact ha
  · simp [Control.reading]

theorem State.Fit.endListening {s : State} (h : s.Fit) (ha : s.acting = true) : s.endListening.Fit := by
  have hawake := (s.acting_iff.mp ha).1
  unfold State.endListening
  dsimp only
  split_ifs
  · rw [State.enterStandby_listened]
    have hfit := (h.enterStandby ha).setFirst (State.enterStandby_acting hawake) (by simp) (some (s.own * s.cfg.period / 16))
    rwa [State.enterStandby_link] at hfit
  · rw [State.enterRunning_listened]
    have hfit := (h.enterRunning ha).setFirst (State.enterRunning_acting hawake) (by simp) (some (s.own * s.cfg.period / 16))
    rwa [State.enterRunning_link] at hfit

/-! ## When the timers of station control run -/

section
variable {s : State} (hs : s.Sound)
include hs

theorem State.Sound.listening (hl : s.control.listen.isSome) : s.acting = true := by
  obtain ⟨-, -, -, -, -, hlisten, -⟩ := hs.1
  exact hs.fit.acting_of_not_reading (by simp [Control.reading, (hlisten.mp hl).2])

theorem State.Sound.testing (ht : s.control.test.isSome) : s.acting = true := by
  obtain ⟨-, -, -, -, -, -, -, htest, -⟩ := hs.1
  exact hs.fit.acting_of_not_reading (by simp [Control.reading, htest.mp ht])

/-! ## The station's own beginnings and ends -/

theorem State.Sound.resetPinLow :
    State.Sound (if s.pins.resetLow then s
      else if s.pins.powered then s.holdReset
      else { s with pins := { s.pins with resetLow := true } }) := by
  split_ifs with hlow hpow
  · exact hs
  · exact hs.holdReset
  · exact hs.movePin (Bool.eq_false_iff.mpr hpow) true

theorem State.Sound.pinReset (straps : BitVec 4) :
    State.Sound (if s.pins.powered then s.releaseReset straps
      else { s with pins := { s.pins with resetLow := false } }) := by
  split_ifs with hpow
  · exact hs.releaseReset hpow straps
  · exact hs.movePin (Bool.eq_false_iff.mpr hpow) false

theorem State.Sound.readEnd (bytes : List Byte) :
    State.Sound (if s.awake && s.control.reading then (s.readTimeSpent bytes).endRead bytes else s) := by
  split_ifs with h
  · rw [Bool.and_eq_true] at h
    unfold State.readTimeSpent
    split_ifs
    · exact (hs.elapse _).endRead h.1 h.2 bytes
    · exact hs.endRead h.1 h.2 bytes
  · exact hs

theorem State.Sound.settleRestart : s.settleRestart.Sound := by
  rw [State.settleRestart_of_not_due hs.1.restartDue]
  exact hs

/-! ## The pins of the door and of the contact -/

theorem State.Sound.doorOpens :
    State.Sound (if s.pins.doorOpen then s else (s.setDoor true).whenActing State.doorOpens) := by
  split_ifs
  · exact hs
  · have hset : (s.setDoor true).Fit := hs.fit.setDoor fun hb => by cases hb
    have hsound : (s.setDoor true).Sound := (State.sound_iff _).mpr ⟨hset, (s.sound_iff.mp hs).2⟩
    exact State.whenActing_sound hsound fun ha => hset.doorOpens ha rfl

theorem State.Sound.doorCloses :
    State.Sound (if s.pins.doorOpen then (s.setDoor false).whenActing State.doorCloses else s) := by
  split_ifs
  · cases ha : s.acting with
    | true =>
      rw [State.whenActing_of_acting (s := s.setDoor false) _ ha]
      exact (hs.fit.doorCloses ha).watch _
    | false =>
      rw [State.whenActing_of_not_acting (s := s.setDoor false) _ ha]
      have hr : s.control.reading = true := by
        by_contra hr
        rw [hs.fit.acting_of_not_reading (Bool.eq_false_iff.mpr hr)] at ha
        cases ha
      obtain ⟨-, -, -, -, harb, -⟩ := hs.fit.waiting.2 hr
      exact (State.sound_iff _).mpr ⟨hs.fit.setDoor fun _ => by simp [harb, Arbiter.initial], (s.sound_iff.mp hs).2⟩
  · exact hs

theorem State.Sound.setContact (b : Bool) : (s.setContact b).Sound := hs

theorem State.Sound.contactMoves {f : Interlock → Interlock} (b : Bool)
    (hf : (f s.interlock).Ready s.cfg.stages)
    (hframe : (f s.interlock).ceiling = s.interlock.ceiling ∧ (f s.interlock).frost = s.interlock.frost) :
    ((s.setContact b).whenActing (State.protect f)).Sound :=
  State.whenActing_sound (hs.setContact b) fun ha =>
    State.Fit.protect_acting (s := s.setContact b) (State.Sound.fit hs) ha hf hframe.1 hframe.2

end

end Sys2Proof.Machine
end

section
/-! Every command and every step keeps a station sound ("What each step holds"). -/

namespace Sys2Proof.Machine

section
variable {s : State} (hs : s.Sound)
include hs

/-! ## Timers that run only while the station acts -/

theorem State.Sound.running (ht : s.peers.duplicate.isSome ∨ s.peers.panel.silence.isSome ∨ s.peers.budget.silence.isSome
      ∨ s.peers.plant.silence.isSome ∨ s.share.hold.isSome ∨ s.output.upDelay.isSome ∨ s.output.downDelay.isSome
      ∨ s.output.proof.left.isSome ∨ s.output.afterRun.isSome ∨ s.output.fanTickIn.isSome
      ∨ s.output.damperTickIn.isSome) : s.acting = true :=
  hs.fit.acting_of_timers ht

/-- The expiry of the pass timer. -/
theorem State.Sound.controlPass : (s.onExpiry s.demand.passTimer State.pass).Sound :=
  State.onExpiry_sound hs fun left hleft => (hs.fit.elapse left).pass (by simp [Demand.after, hleft])

theorem State.Sound.modeTimer (mode : TimedMode) :
    (s.onExpiry (s.arbiter.timer mode) (State.arbitrate (Arbiter.finish (timedMode mode)))).Sound :=
  hs.expiry (fun ht => hs.fit.acting_of_timer ht) fun _ _ hfit ha =>
    hfit.arbitrate ha (hfit.arbiter.finish (timedMode_ne mode).2)

theorem State.Sound.doorDwell : (s.onExpiry s.arbiter.dwell State.endDwell).Sound :=
  State.onExpiry_sound hs fun left hleft => (hs.fit.elapse left).endDwell (by simp [Arbiter.after, hleft])

theorem State.Sound.doorTail :
    (s.onExpiry s.arbiter.tail (State.arbitrate fun a => { a with tail := none }.finish .door)).Sound :=
  State.onExpiry_sound hs fun left hleft => (hs.fit.elapse left).endTail (by simp [Arbiter.after, hleft])

theorem State.Sound.fanProven :
    (s.onExpiry s.output.proof.left fun s => s.drive fun o => { o with proof := .proven }.settle s.own).Sound := by
  refine hs.expiry (fun ht => hs.running (by simp [ht])) fun left hleft hfit ha => hfit.proveFan ha ?_
  intro hidle
  have hnone : s.output.proof = .idle := (FanProof.after_idle_iff left _).mp hidle
  simp [hnone, FanProof.left] at hleft

/-- A dwell of the FROST machine at its end, the change handed on (R156). -/
theorem State.Sound.frostMoves {t : Timer} {f : Interlock → Interlock} (hrun : t.isSome → s.acting = true)
    (hf : ∀ (n : Nat) (i : Interlock), i.Ready n → (f i).Ready n)
    (hframe : ∀ i : Interlock, (f i).ceiling = i.ceiling ∧ (f i).effectiveCeiling = i.effectiveCeiling) :
    (s.onExpiry t fun s => State.handFrost { s with interlock := f s.interlock }).Sound :=
  hs.expiry hrun fun _ _ hfit ha =>
    hfit.handFrost ha (hf _ _ hfit.interlock.ready) (hframe _).1 (hframe _).2

theorem State.Sound.cooldownExpiry : (s.onExpiry s.interlock.cooldown (State.protect Interlock.cooldownEnds)).Sound :=
  State.onExpiry_sound hs fun left hleft =>
    (hs.fit.elapse left).protect_trip (tripList := (s.elapse left).interlock.tripList) rfl
      ((hs.fit.elapse left).interlock.ready.cooldownEnds (by simp [Interlock.after, hleft]))

theorem State.Sound.tripAges :
    (s.onExpiry s.interlock.ageOutIn (State.protect fun i => { i with tripList := i.tripList.tail })).Sound :=
  State.onExpiry_sound hs fun left _ =>
    (hs.fit.elapse left).protect_trip (trip := s.interlock.trip) (cooldown := (s.elapse left).interlock.cooldown) rfl
      (hs.fit.elapse left).interlock.ready.agesOut

theorem State.Sound.drops : (s.onExpiry s.interlock.drop (State.protect Interlock.drops)).Sound :=
  hs.protects (fun ht => hs.fit.acting_of_dwells (by simp [ht]))
    (fun _ hleft hr => hr.drops (by simp [Interlock.after, hleft])) fun _ => ⟨rfl, rfl⟩

theorem State.Sound.rises : (s.onExpiry s.interlock.rise (State.protect (Interlock.rises s.cfg.stages))).Sound :=
  hs.protects (fun ht => hs.fit.acting_of_dwells (by simp [ht]))
    (fun _ hleft hr => hr.rises (by simp [Interlock.after, hleft])) fun _ => ⟨rfl, rfl⟩

theorem State.Sound.contactOpens :
    State.Sound (if s.pins.contactOpen then s else (s.setContact true).whenActing (State.protect Interlock.contactOpens)) := by
  split_ifs
  · exact hs
  · have hframe : s.interlock.contactOpens.ceiling = s.interlock.ceiling
        ∧ s.interlock.contactOpens.frost = s.interlock.frost := by
      rw [Interlock.contactOpens_eq]
      exact ⟨rfl, rfl⟩
    exact hs.contactMoves true hs.fit.interlock.ready.contactOpens hframe

theorem State.Sound.contactCloses :
    State.Sound (if s.pins.contactOpen then (s.setContact false).whenActing (State.protect Interlock.contactCloses) else s) := by
  split_ifs
  · have hframe : s.interlock.contactCloses.ceiling = s.interlock.ceiling
        ∧ s.interlock.contactCloses.frost = s.interlock.frost := by
      rw [Interlock.contactCloses_frame]
      exact ⟨rfl, rfl⟩
    exact hs.contactMoves false hs.fit.interlock.ready.contactCloses hframe
  · exact hs

theorem State.Sound.supplyFall : State.Sound (if s.pins.powered then s.powerDown else s) := by
  split_ifs
  · exact hs.powerDown
  · exact hs

theorem State.Sound.receptionDrop : State.Sound (if s.attentive then s.hears else s) := by
  split_ifs with ha
  · exact hs.hears ha
  · exact hs

theorem State.Sound.lineIdle : (s.onLine Link.idled).Sound := by
  refine State.onLine_sound hs hs.fit.link.idled fun hok => ?_
  rw [Link.idled_eq]
  exact hok

/-- An attempt begins where none is in progress, so it takes no reply's place. -/
theorem State.Sound.attemptBegin : (s.onLine (Link.begin s.reports)).Sound := by
  refine State.onLine_sound hs (hs.fit.link.begin _) fun hok => ?_
  unfold Link.begin
  split
  · next c hc =>
    obtain ⟨-, hnone, -⟩ := Link.ready_spec hc
    simp only [Link.holdsRestartOk, hnone, Bool.or_false] at hok
    simp [Link.holdsRestartOk, hok]
  · exact hok

/-! ## The commands -/

/-- Every command takes its step, and leaves the station sound. -/
theorem State.Sound.exec (c : Instr) : ∃ t, exec c s = .next t ∧ t.Sound := by
  cases c with
  | coldStart straps => exact ⟨_, rfl, hs.coldStart straps⟩
  | resetPinLow => exact ⟨_, rfl, hs.resetPinLow⟩
  | pinReset straps => exact ⟨_, rfl, hs.pinReset straps⟩
  | configurationReadEnd bytes => exact ⟨_, rfl, hs.readEnd bytes⟩
  | listenTimerExpiry => exact ⟨_, rfl, hs.expiry hs.listening fun _ _ hfit ha => hfit.endListening ha⟩
  | restartTakesEffect => exact ⟨_, rfl, hs.settleRestart⟩
  | temperatureSample channel code =>
    exact ⟨_, rfl, State.whenActing_sound hs fun ha => hs.fit.sample ha channel code.val⟩
  | supplySample code => exact ⟨_, rfl, State.whenActing_sound hs fun ha => hs.fit.supplySample ha code⟩
  | attemptBegin => exact ⟨_, rfl, hs.attemptBegin⟩
  | attemptComplete => exact ⟨_, rfl, State.endAttempt_sound hs hs.fit.link.complete⟩
  | contentionLoss => exact ⟨_, rfl, State.endAttempt_sound hs hs.fit.link.fail⟩
  | attemptError => exact ⟨_, rfl, State.endAttempt_sound hs hs.fit.link.fail⟩
  | reportDue => exact ⟨_, rfl, State.onExpiry_sound hs fun left _ => (hs.fit.elapse left).fillReport⟩
  | earlyReportDue => exact ⟨_, rfl, State.onExpiry_sound hs fun left _ => (hs.fit.elapse left).fillReport⟩
  | firstReportDue => exact ⟨_, rfl, State.onExpiry_sound hs fun left _ => (hs.fit.elapse left).fillReport⟩
  | receptionDrop bytes => exact ⟨_, rfl, hs.receptionDrop⟩
  | overloadArrival => exact ⟨_, rfl, State.onMessage_sound hs fun hfit ha => hfit.overload ha⟩
  | postArrival source condition action target =>
    exact ⟨_, rfl, State.onMessage_sound hs fun hfit ha => hfit.post ha source condition action target⟩
  | budgetArrival units =>
    exact ⟨_, rfl, State.onMessage_sound hs fun hfit ha => hfit.withPeers_recompute ha (hfit.peers.takeBudget units) rfl⟩
  | plantArrival capacity coolant fault =>
    exact ⟨_, rfl, State.onMessage_sound hs fun hfit ha =>
      hfit.withPeers_recompute ha (hfit.peers.takePlant capacity coolant fault) rfl⟩
  | panelArrival mode setpoint => exact ⟨_, rfl, State.onMessage_sound hs fun hfit ha => hfit.panel ha mode setpoint⟩
  | reportArrival source body => exact ⟨_, rfl, State.onMessage_sound hs fun hfit ha => hfit.reportFrom ha source body⟩
  | readStatus target => exact ⟨_, rfl, State.onRequest_sound hs fun hfit ha hp => hfit.reply_acting ha hp _ _ _⟩
  | readPeer target argument => exact ⟨_, rfl, State.onRequest_sound hs fun hfit ha hp => hfit.answerPeer ha hp _⟩
  | readConfig target => exact ⟨_, rfl, State.onRequest_sound hs fun hfit ha hp => hfit.reply_acting ha hp _ _ _⟩
  | testOutput target argument value =>
    exact ⟨_, rfl, State.onRequest_sound hs fun hfit ha hp => hfit.testRequest ha hp _ (Nat.min_le_left _ _)⟩
  | endTest target => exact ⟨_, rfl, State.onRequest_sound hs fun hfit ha hp => hfit.endTestRequest ha hp⟩
  | restart target => exact ⟨_, rfl, State.onRequest_sound hs fun hfit ha hp => hfit.restartRequest ha hp⟩
  | clearLock target => exact ⟨_, rfl, State.onRequest_sound hs fun hfit ha hp => hfit.clearLockRequest ha hp⟩
  | entryStale number => exact ⟨_, rfl, hs.entryStale number⟩
  | entryLost number => exact ⟨_, rfl, hs.entryLost number⟩
  | duplicateTimerExpiry =>
    exact ⟨_, rfl, hs.expiry (fun ht => hs.running (by simp [ht])) fun _ _ hfit ha =>
      hfit.withPeers_recompute ha (hfit.peers.setDuplicate (Timer.within_none _)) rfl⟩
  | panelTimeout =>
    exact ⟨_, rfl, hs.expiry (fun ht => hs.running (by simp [ht])) fun _ _ hfit ha =>
      hfit.withPeers ha hfit.peers.silencePanel rfl⟩
  | budgetTimeout =>
    exact ⟨_, rfl, hs.expiry (fun ht => hs.running (by simp [ht])) fun _ _ hfit ha =>
      hfit.withPeers_recompute ha hfit.peers.silenceBudget rfl⟩
  | plantTimeout =>
    exact ⟨_, rfl, hs.expiry (fun ht => hs.running (by simp [ht])) fun _ _ hfit ha =>
      hfit.withPeers_recompute ha hfit.peers.silencePlant rfl⟩
  | controlPass => exact ⟨_, rfl, hs.controlPass⟩
  | overloadHoldExpiry =>
    exact ⟨_, rfl, hs.expiry (fun ht => hs.running (by simp [ht])) fun _ _ hfit ha => hfit.endHold ha⟩
  | modeTimerExpiry mode => exact ⟨_, rfl, hs.modeTimer mode⟩
  | doorInputOpen => exact ⟨_, rfl, hs.doorOpens⟩
  | doorInputClose => exact ⟨_, rfl, hs.doorCloses⟩
  | doorDwellExpiry => exact ⟨_, rfl, hs.doorDwell⟩
  | doorTailExpiry => exact ⟨_, rfl, hs.doorTail⟩
  | stepUpDelayExpiry =>
    exact ⟨_, rfl, hs.expiry (fun ht => hs.running (by simp [ht])) fun _ _ hfit ha => hfit.endUpDelay ha⟩
  | stepDownDelayExpiry =>
    exact ⟨_, rfl, hs.expiry (fun ht => hs.running (by simp [ht])) fun _ _ hfit ha => hfit.endDownDelay ha⟩
  | fanProven => exact ⟨_, rfl, hs.fanProven⟩
  | fanTick => exact ⟨_, rfl, hs.expiry (fun ht => hs.running (by simp [ht])) fun _ _ hfit ha => hfit.tickFan ha⟩
  | damperTick => exact ⟨_, rfl, hs.expiry (fun ht => hs.running (by simp [ht])) fun _ _ hfit ha => hfit.tickDamper ha⟩
  | afterRunExpiry =>
    exact ⟨_, rfl, hs.expiry (fun ht => hs.running (by simp [ht])) fun _ _ hfit ha => hfit.endAfterRun ha⟩
  | heatLimitOpen => exact ⟨_, rfl, hs.contactOpens⟩
  | heatLimitClose => exact ⟨_, rfl, hs.contactCloses⟩
  | openDwellExpiry =>
    exact ⟨_, rfl, hs.protects (fun ht => hs.fit.acting_of_dwells (by simp [ht]))
      (fun _ hleft hr => hr.trips' (by simp [Interlock.after, hleft])) fun _ => ⟨rfl, rfl⟩⟩
  | cooldownExpiry => exact ⟨_, rfl, hs.cooldownExpiry⟩
  | tripEntryAgeOut => exact ⟨_, rfl, hs.tripAges⟩
  | coldDwellExpiry =>
    exact ⟨_, rfl, hs.frostMoves (fun ht => hs.fit.acting_of_dwells (by simp [ht])) (fun _ _ hr => hr.frosts)
      fun _ => ⟨rfl, rfl⟩⟩
  | warmDwellExpiry =>
    exact ⟨_, rfl, hs.frostMoves (fun ht => hs.fit.acting_of_dwells (by simp [ht])) (fun _ _ hr => hr.clears)
      fun _ => ⟨rfl, rfl⟩⟩
  | lowDwellExpiry =>
    exact ⟨_, rfl, hs.protects (fun ht => hs.fit.acting_of_dwells (by simp [ht]))
      (fun _ hleft hr => hr.entersLow (by simp [Interlock.after, hleft])) fun _ => ⟨rfl, rfl⟩⟩
  | recoveryDwellExpiry =>
    exact ⟨_, rfl, hs.protects (fun ht => hs.fit.acting_of_dwells (by simp [ht]))
      (fun _ _ hr => hr.recovers) fun _ => ⟨rfl, rfl⟩⟩
  | dropTimerExpiry => exact ⟨_, rfl, hs.drops⟩
  | riseTimerExpiry => exact ⟨_, rfl, hs.rises⟩
  | testTimerExpiry => exact ⟨_, rfl, hs.expiry hs.testing fun _ _ hfit ha => hfit.enterStandby ha⟩
  | lineIdle => exact ⟨_, rfl, hs.lineIdle⟩
  | logicSupplyFall => exact ⟨_, rfl, hs.supplyFall⟩

end

end Sys2Proof.Machine
end

section
/-! Every step keeps a station sound: the command at the front of the queue, and what the station does of its own accord
("What each step holds"; log 1, 5). -/

namespace Sys2Proof.Machine

/-! ## A level of the line -/

theorem Link.count_ones_le (level : Bool) (l : Link) : (l.count level).ones ≤ 12 := by
  unfold Link.count idleBits
  dsimp only
  split_ifs
  · exact Nat.min_le_left _ _
  · exact Nat.zero_le _

/-- While an attempt is in progress a level read is one of its read-back. -/
theorem Link.readBack_incoming (own : Nat) (a : Attempt) (level : Bool) (l : Link) :
    (l.readBack own a level).1.incoming.isSome := by
  unfold Link.readBack
  dsimp only
  split <;> rfl

/-- A level read on a line that has been idle since the beginning leaves it no longer unread (R36). -/
theorem Link.readLevel_unread (own : Nat) (level : Bool) (l : Link) (hl : l.line ≠ .unread) :
    (l.readLevel own level).1.line ≠ .unread := by
  have hawait : ∀ k : Link, k.line ≠ .unread → (k.awaitStart level).1.line ≠ .unread := by
    intro k hk
    unfold Link.awaitStart
    split
    · exact fun hu => by cases hu
    · exact hk
  unfold Link.readLevel
  split
  · unfold Link.readBack
    dsimp only
    split <;> exact hl
  · exact hawait _ hl
  · exact hawait { l with incoming := none } hl
  · unfold Link.receiveLevel
    split <;> exact hl

/-- Before the first idle line a level read begins nothing (R36). -/
theorem Link.readLevel_of_unread (own : Nat) (level : Bool) {l : Link} (hl : l.line = .unread) (hi : l.incoming = none)
    (ha : l.attempt = none) : (l.readLevel own level).1 = l.count level := by
  unfold Link.readLevel
  rw [ha, hi]
  simp [Link.awaitStart, hl]

theorem State.LinkReady.readLevel {s : State} (h : s.LinkReady) (own : Nat) (level : Bool) :
    State.LinkReady { s with link := (s.link.readLevel own level).1 } := by
  obtain ⟨⟨-, hmicros, hunread, -⟩, h2, h3, h4, h5, h6, h7, h8⟩ := h
  have hones := Link.count_ones_le level s.link
  have hstill := Link.readLevel_unread own level s.link
  have hback : s.link.attempt.isSome → (s.link.readLevel own level).1.incoming.isSome := by
    intro hs
    obtain ⟨a, ha⟩ := Option.isSome_iff_exists.mp hs
    unfold Link.readLevel
    rw [ha]
    exact Link.readBack_incoming own a level s.link
  have hquiet : s.link.line = .unread → (s.link.readLevel own level).1.incoming = none := by
    intro hl
    rw [Link.readLevel_of_unread own level hl (hunread hl).1 (hunread hl).2]
    exact (hunread hl).1
  have hframe := Link.readLevel_frame own level s.link
  generalize (s.link.readLevel own level).1 = l at hframe hstill hback hquiet ⊢
  rw [hframe]
  refine ⟨⟨hones, hmicros, fun hu => ?_, hback⟩, h2, h3, h4, h5, h6, h7, h8⟩
  have hl : s.link.line = .unread := by
    by_contra hne
    exact hstill hne hu
  exact ⟨hquiet hl, (hunread hl).2⟩

theorem Link.readLevel_holdsRestartOk (own : Nat) (level : Bool) (l : Link) :
    (l.readLevel own level).1.holdsRestartOk = l.holdsRestartOk := by
  rw [Link.readLevel_frame]
  rfl

section
variable {s : State} (hs : s.Sound)
include hs

/-- The bit times read within a millisecond are no part of any block but the line's (R19; log 5). -/
theorem State.Sound.setMicros {micros : Nat} (hm : micros < 1000) : State.Sound { s with micros := micros } := by
  obtain ⟨hfit, hcurrent⟩ := s.sound_iff.mp hs
  obtain ⟨⟨l1, -, l2⟩, l3, l4, l5, l6, l7, l8, l9⟩ := hfit.link
  exact (State.sound_iff _).mpr ⟨⟨hfit.control, hfit.waiting, hfit.sensing, ⟨⟨l1, hm, l2⟩, l3, l4, l5, l6, l7, l8, l9⟩,
    hfit.peers, hfit.demand, hfit.share, hfit.arbiter, hfit.output, hfit.interlock⟩, hcurrent⟩

theorem State.Sound.bitTime : s.bitTime.Sound := by
  have hm := hs.micros
  unfold State.bitTime
  split_ifs with hlt
  · exact hs.setMicros hlt
  · exact (hs.elapse 1).setMicros (by omega)

theorem State.Sound.readLink (ha : s.awake = true) (own : Nat) (level : Bool) :
    State.Sound { s with link := (s.link.readLevel own level).1 } := by
  obtain ⟨hfit, hcurrent⟩ := s.sound_iff.mp hs
  have hok := Link.readLevel_holdsRestartOk own level s.link
  have hlink := hfit.link.readLevel own level
  have hframe := Link.readLevel_frame own level s.link
  obtain ⟨h1, h2, h3, h4, h5, h6, h7, h8, h9, h10, h11⟩ := hfit.control
  refine (State.sound_iff _).mpr ⟨⟨⟨h1, h2, h3, h4, h5, h6, h7, h8, h9, fun hp => ⟨(h10 hp).1, hok.trans (h10 hp).2⟩, h11⟩,
    ⟨fun hf => absurd ha (by rw [show s.awake = false from hf]; decide), hfit.waiting.2⟩, hfit.sensing, hlink, hfit.peers,
    hfit.demand, hfit.share, hfit.arbiter, hfit.output, hfit.interlock⟩, fun r hr hsend => ?_⟩
  rw [hframe] at hr hsend
  exact hcurrent r hr hsend

theorem State.Sound.readLevel (level : Bool) : (s.readLevel level).Sound := by
  have hbit := hs.bitTime
  unfold State.readLevel
  dsimp only
  split_ifs with ha
  · exact hbit.readLink ha _ level
  · exact hbit

/-! ## The steps -/

theorem State.Sound.idleStep : s.idleStep.Sound := by
  unfold State.idleStep
  split
  · exact hs.elapse 1
  · next _ level levels _ _ => exact State.Sound.readLevel (s := { s with wire := levels }) hs _
  · exact hs

/-- Every step takes place and leaves the station sound. -/
theorem State.Sound.step {t : State} (ht : step s = .next t) : t.Sound := by
  unfold Machine.step at ht
  split at ht
  · next c rest _ =>
    obtain ⟨u, hu, hsound⟩ := State.Sound.exec (s := { s with pending := rest }) hs c
    rw [hu] at ht
    cases ht
    exact hsound
  · cases ht
    exact hs.idleStep

/-- While a stage is on, the fan is proven, so its position is at the heating minimum at least (R125, R130, R137). -/
theorem State.Sound.fanPos (hon : 0 < s.output.stagesOn) : s.cfg.fanHeatMin ≤ s.output.fanPos := by
  have hsteady := hs.fit.output.ready.steady
  exact hsteady.proof.1 (by simp [(hsteady.driven hon).1])

end

end Sys2Proof.Machine

namespace Sys2Proof.Machine

/-! ## The invariant's statements -/

/-- Settles O55, by every step keeping the whole station sound. -/
theorem stepKeepsControlSound : Obligations.StepKeepsControlSound := by
  intro s hs t ht
  obtain ⟨hcontrol, hwaiting, -⟩ := hs.step ht
  exact ⟨hcontrol, hwaiting⟩

/-- Settles O56, by every step keeping the whole station sound. -/
theorem stepKeepsSensingAndPeersSound : Obligations.StepKeepsSensingAndPeersSound := by
  intro s hs t ht
  obtain ⟨-, -, hsensing, -, hpeers, -⟩ := hs.step ht
  exact ⟨hsensing, hpeers⟩

/-- Settles O57, by every step keeping the whole station sound. -/
theorem stepKeepsLinkSound : Obligations.StepKeepsLinkSound := by
  intro s hs t ht
  obtain ⟨-, -, -, hlink, -⟩ := hs.step ht
  exact hlink

/-- Settles O58, by every step keeping the whole station sound. -/
theorem stepKeepsDemandShareAndArbiterSound : Obligations.StepKeepsDemandShareAndArbiterSound := by
  intro s hs t ht
  obtain ⟨-, -, -, -, -, hdemand, hshare, harbiter, -⟩ := hs.step ht
  exact ⟨hdemand, hshare, harbiter⟩

/-- Settles O59, by every step keeping the whole station sound, a proven fan standing at its heating minimum. -/
theorem stepKeepsOutputSound : Obligations.StepKeepsOutputSound := by
  intro s hs t ht
  have hsound := hs.step ht
  exact ⟨hsound.fit.output, hsound.fanPos⟩

/-- Settles O60, by every step keeping the whole station sound. -/
theorem stepKeepsInterlockSound : Obligations.StepKeepsInterlockSound :=
  fun _ hs _ ht => (hs.step ht).fit.interlock

/-- Settles O54: the station right after reset stands at a beginning's values. -/
theorem resetIsSound : Obligations.ResetIsSound := by
  exact (State.atBeginning_cold (s := State.reset) (own := 1) (pins := State.reset.pins) (by decide) (Timer.within_full 100)
    (by decide) (by decide) (by decide)).sound

end Sys2Proof.Machine
end

section
/-! What an event carries over, and how it moves the stages: the relations that the laws over every command follow
("What each step holds"; R124, R133, R166, R168). -/

namespace Sys2Proof.Machine

/-! ## What a command is -/

/-- The commands that begin the station anew or stop it. -/
abbrev Begins (c : Instr) : Prop :=
  (∃ n, c = .coldStart n ∨ c = .pinReset n) ∨ c = .resetPinLow ∨ c = .logicSupplyFall

/-- The end of the configuration read. -/
abbrev Reads (c : Instr) : Prop := ∃ bytes, c = .configurationReadEnd bytes

/-- The samples. -/
abbrev Samples (c : Instr) : Prop := (∃ ch n, c = .temperatureSample ch n) ∨ (∃ n, c = .supplySample n)

/-- The events of the peer table's entries. -/
abbrev Enters (c : Instr) : Prop :=
  (∃ n r, c = .reportArrival n r) ∨ (∃ n, c = .entryStale n ∨ c = .entryLost n)

/-! ## What an event carries over -/

/-- What the command `c` leaves alone: the queue, the levels to come, the own number, and, but for the commands that are
for them, the configuration in use and the sensing unit. -/
structure State.Carries (c : Instr) (s t : State) : Prop where
  pending : t.pending = s.pending
  ties : t.ties = s.ties
  wire : t.wire = s.wire
  micros : t.micros = s.micros
  own : t.own = s.own
  settled : ¬Reads c →
    t.cfg = s.cfg ∧ t.control.cfgDefault = s.control.cfgDefault ∧ t.control.cfgClamped = s.control.cfgClamped
  sensing : ¬Samples c → ¬Enters c → t.sensing = s.sensing

section
variable {c : Instr} {s t u : State}

theorem State.Carries.trans (h : State.Carries c s t) (k : State.Carries c t u) : State.Carries c s u where
  pending := k.pending.trans h.pending
  ties := k.ties.trans h.ties
  wire := k.wire.trans h.wire
  micros := k.micros.trans h.micros
  own := k.own.trans h.own
  settled hr := by
    obtain ⟨h1, h2, h3⟩ := h.settled hr
    obtain ⟨k1, k2, k3⟩ := k.settled hr
    exact ⟨k1.trans h1, k2.trans h2, k3.trans h3⟩
  sensing hs he := (k.sensing hs he).trans (h.sensing hs he)

/-- A change that leaves station control and the sensing unit is carried over. -/
theorem State.Carries.of_control (hp : t.pending = s.pending) (ht : t.ties = s.ties) (hw : t.wire = s.wire)
    (hm : t.micros = s.micros) (hc : t.control = s.control) (hs : t.sensing = s.sensing) : State.Carries c s t :=
  ⟨hp, ht, hw, hm, by rw [State.own, hc]; rfl, fun _ => by simp only [State.cfg, hc, and_self], fun _ _ => hs⟩

theorem State.Carries.refl : State.Carries c s s := .of_control rfl rfl rfl rfl rfl rfl

end

/-! ## How an event moves the stages -/

/-- A stage goes on at most once, where no step-up delay runs and, for the first, the fan is proven; it starts the delay
in full. The delay that runs is stopped only where stages come off (R124, R131). -/
structure Output.Steps (own : Nat) (o k : Output) : Prop where
  on : o.stagesOn < k.stagesOn →
    k.stagesOn = o.stagesOn + 1 ∧ k.upDelay = some (3000 + 250 * own) ∧ o.upDelay = none
      ∧ (o.stagesOn = 0 → o.proof = .proven)
  delay : k.stagesOn = o.stagesOn → o.upDelay.isSome →
    k.upDelay = o.upDelay ∨ k.upDelay = some (3000 + 250 * own)
  stop : o.upDelay.isSome → k.upDelay = none → k.stagesOn < o.stagesOn
  proof : k.proof = .proven → o.proof = .proven

section
variable {own : Nat} {o k l : Output}

/-- Nothing of the stages moves. -/
theorem Output.Steps.of_eq (hs : k.stagesOn = o.stagesOn) (hu : k.upDelay = o.upDelay)
    (hp : k.proof = .proven → o.proof = .proven) : Output.Steps own o k :=
  ⟨fun hlt => by omega, fun _ _ => .inl hu, fun hsome hnone => by simp [← hu, hnone] at hsome, hp⟩

theorem Output.Steps.refl : Output.Steps own o o := .of_eq rfl rfl id

/-- Stages only come off, the delay stopped or not. -/
theorem Output.Steps.of_lt (hs : k.stagesOn < o.stagesOn) (hp : k.proof = .proven → o.proof = .proven) :
    Output.Steps own o k :=
  ⟨fun hlt => by omega, fun he _ => by omega, fun _ _ => hs, hp⟩

theorem Output.Steps.trans (h : Output.Steps own o k) (g : Output.Steps own k l) : Output.Steps own o l := by
  have hfree : o.stagesOn ≤ k.stagesOn → k.upDelay = none → o.upDelay = none := by
    intro hle hnone
    by_contra hsome
    exact absurd (h.stop (Option.isSome_iff_ne_none.mpr hsome) hnone) (Nat.not_lt.mpr hle)
  refine ⟨fun hlt => ?_, fun heq hsome => ?_, fun hsome hnone => ?_, fun hp => h.proof (g.proof hp)⟩
  · by_cases hon : o.stagesOn < k.stagesOn
    · obtain ⟨h1, h2, h3, h4⟩ := h.on hon
      have hle : ¬k.stagesOn < l.stagesOn := fun hlt => by
        obtain ⟨-, -, hnone, -⟩ := g.on hlt
        simp [h2] at hnone
      have heq : l.stagesOn = k.stagesOn := by omega
      refine ⟨heq.trans h1, ?_, h3, h4⟩
      obtain hd | hd := g.delay heq (by simp [h2])
      · exact hd.trans h2
      · exact hd
    · obtain ⟨g1, g2, g3, g4⟩ := g.on (by omega)
      have heq : k.stagesOn = o.stagesOn := by omega
      exact ⟨by omega, g2, hfree heq.ge g3, fun hz => h.proof (g4 (heq.trans hz))⟩
  · by_cases hlt : k.stagesOn < l.stagesOn
    · exact .inr (g.on hlt).2.1
    · by_cases hon : o.stagesOn < k.stagesOn
      · rw [(h.on hon).2.2.1] at hsome
        cases hsome
      · have hk : k.stagesOn = o.stagesOn := by omega
        obtain hd | hd := h.delay hk hsome
        · obtain hd' | hd' := g.delay (heq.trans hk.symm) (hd ▸ hsome)
          · exact .inl (hd'.trans hd)
          · exact .inr hd'
        · obtain hd' | hd' := g.delay (heq.trans hk.symm) (by simp [hd])
          · exact .inr (hd'.trans hd)
          · exact .inr hd'
  · have hle : ¬k.stagesOn < l.stagesOn := fun hlt => by simp [(g.on hlt).2.1] at hnone
    by_cases hon : o.stagesOn < k.stagesOn
    · rw [(h.on hon).2.2.1] at hsome
      cases hsome
    · cases hk : k.upDelay with
      | none =>
        have := h.stop hsome hk
        omega
      | some left =>
        have := g.stop (by simp [hk]) hnone
        omega

/-- The sequencer settling (R126). -/
theorem Output.settle_steps (own : Nat) (o : Output) : Output.Steps own o (o.settle own) := by
  unfold Output.settle
  split_ifs with hdown hless hup
  · exact .of_eq rfl rfl id
  · exact .of_lt (show o.stagesOn - 1 < o.stagesOn by omega) id
  · rw [Bool.and_eq_true, decide_eq_true_eq, Output.mayStepUp, Bool.and_eq_true, Option.isNone_iff_eq_none,
      Bool.or_eq_true, decide_eq_true_eq, FanProof.isProven_iff] at hup
    obtain ⟨-, hnone, hproven⟩ := hup
    refine ⟨fun _ => ⟨rfl, rfl, hnone, fun hz => hproven.resolve_left (by omega)⟩, fun he => ?_, fun hs => ?_, id⟩
    · exact absurd he (Nat.succ_ne_self _)
    · simp [hnone] at hs
  · exact .of_eq rfl rfl id

/-- A stage target taken (R123). -/
theorem Output.takeStageTarget_steps (own target : Nat) (o : Output) : Output.Steps own o (o.takeStageTarget own target) := by
  unfold Output.takeStageTarget
  split_ifs
  · exact .refl
  · exact .trans (k := { o with stageTarget := target }) (.of_eq rfl rfl id) (Output.settle_steps _ _)

end

/-! ## The shared operations -/

/-- The stages move as they may between two stations of the same own number. -/
abbrev State.Steps (s t : State) : Prop := Output.Steps s.own s.output t.output

theorem State.Steps.trans {s t u : State} (h : s.Steps t) (k : t.Steps u) (ho : t.own = s.own) : s.Steps u := by
  have hk : Output.Steps t.own t.output u.output := k
  rw [ho] at hk
  exact Output.Steps.trans h hk

theorem State.takeTargets_steps (s : State) : s.Steps s.takeTargets :=
  Output.Steps.trans (k := s.output.takeFlow s.flowTargets) (.of_eq rfl rfl id) (Output.takeStageTarget_steps _ _ _)

theorem State.recompute_steps (s : State) : s.Steps s.recompute := s.reckon.takeTargets_steps

/-- Stages taken off at once, at least one of them. -/
theorem State.shed_steps {s : State} {n : Nat} (hn : n < s.output.stagesOn) : s.Steps (s.shed n) := by
  unfold State.Steps
  rw [State.shed_output]
  exact .of_lt hn id

theorem State.handCeiling_steps (s : State) : s.Steps s.handCeiling := by
  obtain ⟨-, he⟩ | ⟨-, hlt, he⟩ | ⟨-, -, he⟩ := s.handCeiling_cases <;> rw [he]
  · exact Output.Steps.refl
  · exact State.shed_steps (s := s.ceiled) hlt
  · exact s.ceiled.takeTargets_steps

theorem State.protect_steps (f : Interlock → Interlock) (s : State) : s.Steps (s.protect f) :=
  State.handCeiling_steps { s with interlock := f s.interlock }

theorem State.handFrost_steps (s : State) : s.Steps s.handFrost := by
  unfold State.handFrost
  split
  · exact State.Steps.trans (t := { s with output := { s.output with evapPos := 0 } }) (Output.Steps.of_eq rfl rfl id)
      (State.recompute_steps _) rfl
  · exact s.recompute_steps

theorem State.arbitrate_steps (f : Arbiter → Arbiter) (s : State) : s.Steps (s.arbitrate f) := by
  by_cases hg : (f s.arbiter).governing = s.arbiter.governing
  · rw [State.arbitrate_same hg]
    exact Output.Steps.refl
  · rw [State.arbitrate_new hg]
    exact State.recompute_steps { s with arbiter := f s.arbiter }

theorem State.judgeDoor_steps (s : State) : s.Steps s.judgeDoor := State.arbitrate_steps _ s

theorem State.handEntry_steps (number : Nat) (s : State) : s.Steps (s.handEntry number) := by
  have hfirst : s.Steps s.recompute.selectAgain := s.recompute_steps
  unfold State.handEntry
  dsimp only
  split_ifs
  · exact hfirst.trans (State.judgeDoor_steps _) (by simp [State.own])
  · exact hfirst

theorem State.enterStandby_steps (s : State) : s.Steps s.enterStandby :=
  State.Steps.trans (t := s.stoodBy) (Output.Steps.of_eq rfl rfl id) s.stoodBy.recompute_steps rfl

theorem State.enterRunning_steps (s : State) : s.Steps s.enterRunning := by
  rw [State.enterRunning_eq]
  exact State.Steps.trans (State.arbitrate_steps _ s.setOff) (State.takeTargets_steps _)
    (by rw [State.own, State.arbitrate_control]; rfl)

theorem State.makeSetting_steps (output : TestOutput) (value : Nat) (s : State) : s.Steps (s.makeSetting output value) :=
  State.Steps.trans (t := { s with output := { s.output with settings := s.output.settings.make output value } })
    (Output.Steps.of_eq rfl rfl id) (Output.Steps.trans (State.takeTargets_steps _) (.of_eq rfl rfl id)) rfl

theorem State.pass_steps (s : State) : s.Steps s.pass := by
  refine Output.Steps.trans (State.recompute_steps
    { s with demand := { passTimer := some Config.passPeriod, record := controlPass s.passInputs s.demand.record } }) ?_
  change Output.Steps _ _ (Output.passValves _ _ _)
  rw [Output.passValves_eq]
  exact .of_eq rfl rfl id

theorem State.restarted_steps (s : State) : s.Steps s.restarted := by
  rw [State.restarted_eq]
  have hfirst : s.Steps s.restarting.handCeiling :=
    State.Steps.trans (t := s.restarting) (Output.Steps.of_eq rfl rfl id) (State.handCeiling_steps _) rfl
  exact hfirst.trans (State.takeTargets_steps _) (by rw [State.own, State.handCeiling_control]; rfl)

theorem State.overload_steps (s : State) : s.Steps s.overload := by
  have hout : s.shareAtOverload.output = s.output := by rw [s.shareAtOverload_frame]
  have hown : s.shareAtOverload.own = s.own := by rw [s.shareAtOverload_frame]; rfl
  have hfirst : s.Steps s.shareAtOverload := .of_eq (by rw [hout]) (by rw [hout]) (by rw [hout]; exact id)
  obtain ⟨hon, he⟩ | ⟨-, he⟩ := s.overload_cases <;> rw [he]
  · exact hfirst.trans (State.shed_steps (by rw [hout]; omega)) hown
  · exact hfirst.trans (State.takeTargets_steps _) hown

theorem State.post_steps (source : Nat) (condition : PostCondition) (action : PostAction) (target : Nat) (s : State) :
    s.Steps (s.post source condition action target) := by
  unfold State.post
  split_ifs
  · exact s.arbitrate_steps _
  · exact Output.Steps.refl

theorem State.followPanel_steps (changed silent : Bool) (s : State) : s.Steps (s.followPanel changed silent) := by
  obtain ⟨-, -, -, he⟩ | ⟨-, -, -, he⟩ | ⟨-, -, he⟩ := s.followPanel_cases changed silent <;> rw [he]
  · exact s.enterStandby_steps
  · exact s.enterRunning_steps
  · exact Output.Steps.refl

theorem State.panel_steps (mode : PanelMode) (setpoint : Word) (s : State) : s.Steps (s.panel mode setpoint) := by
  unfold State.panel
  dsimp only
  split_ifs
  · exact State.followPanel_steps _ _ { s with peers := s.peers.takePanel mode setpoint }
  · exact State.Steps.trans (State.arbitrate_steps _ { s with peers := s.peers.takePanel mode setpoint })
      (State.followPanel_steps _ _ _) (by rw [State.own, State.arbitrate_control]; rfl)

theorem State.reportFrom_steps (source : Nat) (r : ReportBody) (s : State) : s.Steps (s.reportFrom source r) := by
  unfold State.reportFrom State.duplicateHeard
  dsimp only
  split_ifs
  · exact Output.Steps.refl
  · exact State.recompute_steps { s with peers := { s.peers with duplicate := some (lostAge s.cfg) } }
  · exact State.handEntry_steps source { s with peers := { s.peers with table := writeEntry (entryOf source r) s.peers.table } }
  · exact Output.Steps.refl

theorem State.judgeFrost_steps (s : State) : s.Steps s.judgeFrost := by
  unfold State.judgeFrost
  dsimp only
  split_ifs
  · exact Output.Steps.refl
  · exact State.handFrost_steps { s with interlock := s.interlock.judgeCoil s.sensing.coil }

theorem State.sample_steps (ch : Channel) (code : Nat) (s : State) : s.Steps ((s.takeSample ch code).afterSample ch) := by
  rw [State.takeSample_frame]
  cases ch with
  | ret => exact Output.Steps.refl
  | discharge => exact State.protect_steps _ { s with sensing := (s.takeSample .discharge code).sensing }
  | coil => exact State.judgeFrost_steps { s with sensing := (s.takeSample .coil code).sensing }
  | fresh => exact Output.Steps.refl

theorem State.doorOpens_steps (s : State) : s.Steps s.doorOpens := by
  unfold State.doorOpens
  split_ifs <;> exact Output.Steps.refl

theorem State.doorCloses_steps (s : State) : s.Steps s.doorCloses := by
  unfold State.doorCloses
  split_ifs
  · exact State.judgeDoor_steps { s with arbiter := { s.arbiter with ownDoor := false, dwell := none } }
  · exact Output.Steps.refl

theorem State.endDwell_steps (s : State) : s.Steps s.endDwell :=
  State.judgeDoor_steps { s with arbiter := { s.arbiter with ownDoor := s.pins.doorOpen, dwell := none } }

theorem State.endListening_steps (s : State) : s.Steps s.endListening := by
  unfold State.endListening
  dsimp only
  split_ifs
  · rw [State.enterStandby_listened]
    exact s.enterStandby_steps
  · rw [State.enterRunning_listened]
    exact s.enterRunning_steps

theorem State.testRequest_steps (argument value : Nat) (s : State) : s.Steps (s.testRequest argument value) := by
  unfold State.testRequest
  split
  · split_ifs
    · unfold State.testFitted
      split
      · exact State.Steps.trans (t := s.enterTest) (Output.Steps.of_eq rfl rfl id) (State.makeSetting_steps _ _ _) rfl
      · exact State.makeSetting_steps _ _ { s with control := { s.control with test := some Config.testTime } }
      all_goals exact Output.Steps.refl
    · exact Output.Steps.refl
  · exact Output.Steps.refl

theorem State.endTestRequest_steps (s : State) : s.Steps s.endTestRequest := by
  unfold State.endTestRequest
  split
  · exact s.enterStandby_steps
  all_goals exact Output.Steps.refl

theorem State.clearLockRequest_steps (s : State) : s.Steps s.clearLockRequest := by
  unfold State.clearLockRequest
  split
  · exact s.protect_steps _
  all_goals exact Output.Steps.refl

/-- The end of the configuration read starts the step-up delay (R124). -/
theorem State.endRead_steps (bytes : List Byte) (s : State) : s.Steps (s.endRead bytes) := by
  rw [State.endRead_eq]
  refine State.Steps.trans (t := s.configured (settleConfiguration s.own bytes)) ?_ (State.handCeiling_steps _) rfl
  exact ⟨fun hlt => absurd hlt (Nat.lt_irrefl _), fun _ _ => .inr rfl, fun _ hn => (by cases hn), id⟩

theorem Output.tickFan_steps (own : Nat) (cfg : Settings) (effective : Nat) (o : Output) :
    Output.Steps own o (o.tickFan cfg effective) := by
  refine .of_eq rfl rfl fun hp => ?_
  change o.proof.judge _ _ = .proven at hp
  by_contra hne
  have hno : o.proof.isProven = false := by
    rw [Bool.eq_false_iff, ne_eq, FanProof.isProven_iff]
    exact hne
  have hjudged := FanProof.judge_isProven (minimum := cfg.fanHeatMin) (position := slew 50 effective o.fanPos) hno
  rw [hp] at hjudged
  cases hjudged

end Sys2Proof.Machine
end

section
/-! The course of every command: how its event can go, said once. The laws over every command follow from it (section 9.1,
section 7.2; "What each step holds"). -/

namespace Sys2Proof.Machine

/-- The events of R166's table that move the station state, the beginnings and the restart apart. -/
def Steers (c : Instr) (a b : StationState) : Prop :=
  match a, b with
  | .starting, .standby | .starting, .running => c = .listenTimerExpiry
  | .running, .standby => ∃ w, c = .panelArrival .off w
  | .standby, .running | .test, .running => ∃ m w, c = .panelArrival m w ∧ m ≠ .off
  | .standby, .test => ∃ n a w, c = .testOutput n a w
  | .test, .standby => c = .testTimerExpiry ∨ ∃ n, c = .endTest n
  | _, _ => False

/-- The events that may let go of the OK reply to RESTART (R176; log 6). -/
abbrev LetsGo (c : Instr) : Prop :=
  c = .attemptComplete ∨ c = .contentionLoss ∨ c = .attemptError ∨ (requestOfCommand c).isSome

/-- How the stages of an event lie in time: one stage on at most, no sooner than the step-up delay's end and with the fan
proven for the first; the delay stops at its expiry or where stages come off (R124, R133). -/
abbrev Output.Spaced (c : Instr) (own : Nat) (o k : Output) : Prop :=
  (o.stagesOn < k.stagesOn →
    k.stagesOn = o.stagesOn + 1 ∧ k.upDelay = some (3000 + 250 * own)
    ∧ (o.upDelay = none ∨ c = .stepUpDelayExpiry) ∧ (o.stagesOn = 0 → o.proof = .proven ∨ c = .fanProven))
  ∧ (o.upDelay.isSome → k.upDelay = none → c = .stepUpDelayExpiry ∨ k.stagesOn < o.stagesOn)

theorem Output.Steps.spaced {c : Instr} {own : Nat} {o k : Output} (h : Output.Steps own o k) : Output.Spaced c own o k := by
  refine ⟨fun hlt => ?_, fun hs hn => .inr (h.stop hs hn)⟩
  obtain ⟨h1, h2, h3, h4⟩ := h.on hlt
  exact ⟨h1, h2, .inl h3, fun hz => .inl (h4 hz)⟩

/-- The time passed before an event moves no stage. -/
theorem Output.Spaced.of_after {c : Instr} {own ms : Nat} {o k : Output} (h : Output.Spaced c own (o.after ms) k) :
    Output.Spaced c own o k := by
  obtain ⟨h1, h2⟩ := h
  refine ⟨fun hlt => ?_, fun hs hn => h2 (by simpa [Output.after] using hs) hn⟩
  obtain ⟨g1, g2, g3, g4⟩ := h1 hlt
  exact ⟨g1, g2, by simpa [Output.after] using g3, fun hz => by simpa [Output.after, FanProof.after_eq_proven] using g4 hz⟩

/-- An early report that was not there before is the one that follows a completed report (R33). -/
abbrev State.EarlyKept (c : Instr) (s t : State) : Prop :=
  t.link.earlyIn.isSome → s.link.earlyIn.isSome
    ∨ (c = .attemptComplete ∧ t.link.earlyIn = some (t.cfg.period / 4) ∧ t.link.sinceReport = some 0)

/-- How the event of a command can go. -/
inductive State.Course (c : Instr) (s : State) : State → Prop where
  /-- Nothing that other stations watch changes, or the station is in STARTING. -/
  | still {t : State} (carries : State.Carries c s t) (state : t.control.state = s.control.state)
      (noticed : t.noticed = s.noticed ∨ t.control.state = .starting) (spaced : Output.Spaced c s.own s.output t.output)
      (early : t.link.earlyIn.isSome → s.link.earlyIn.isSome) : State.Course c s t
  /-- A change, with the watch at its end. -/
  | watched {v : State} (carries : State.Carries c s v)
      (state : s.Sound → v.control.state = s.control.state ∨ Steers c s.control.state v.control.state)
      (spaced : Output.Spaced c s.own s.output v.output) (early : State.EarlyKept c s v) : State.Course c s (v.watch s)
  /-- A beginning or a stop, or a pin that moves alone. -/
  | begins {t : State} (hc : Begins c) (pending : t.pending = s.pending) (ties : t.ties = s.ties) (wire : t.wire = s.wire)
      (micros : t.micros = s.micros)
      (values : (t.control.state = .starting ∧ t.output.stagesOn = 0 ∧ t.link.earlyIn = none)
        ∨ t = { s with pins := t.pins }) : State.Course c s t
  /-- The restart takes effect within the event. -/
  | restarts {t : State} (hc : c = .restartTakesEffect ∨ LetsGo c) (hp : s.control.restartPending = true)
      (carries : State.Carries c s t) (state : t.control.state = .starting)
      (spaced : Output.Spaced c s.own s.output t.output) (early : t.link.earlyIn = none) : State.Course c s t

/-! ## Inner changes -/

/-- What an inner change of the command `c` does, whatever the station: it carries over what it must, moves the stages as it
may and brings no early report. -/
structure Inner (c : Instr) (f : State → State) : Prop where
  carries (s : State) : State.Carries c s (f s)
  steps (s : State) : s.Steps (f s)
  early (s : State) : (f s).link.earlyIn.isSome → s.link.earlyIn.isSome

/-- A change that leaves station control, the sensing unit and the link controller. -/
theorem Inner.of_frame {c : Instr} {f : State → State}
    (h : ∀ s, (f s).pending = s.pending ∧ (f s).ties = s.ties ∧ (f s).wire = s.wire ∧ (f s).micros = s.micros
      ∧ (f s).control = s.control ∧ (f s).sensing = s.sensing ∧ (f s).link = s.link)
    (hs : ∀ s : State, s.Steps (f s)) : Inner c f := by
  refine ⟨fun s => ?_, hs, fun s he => ?_⟩
  · obtain ⟨h1, h2, h3, h4, h5, h6, -⟩ := h s
    exact .of_control h1 h2 h3 h4 h5 h6
  · obtain ⟨-, -, -, -, -, -, h7⟩ := h s
    rwa [h7] at he

section
variable {c : Instr} {s : State} {f : State → State}

/-! ## The forms -/

theorem State.elapse_carries (ms : Nat) (s : State) : State.Carries c s (s.elapse ms) :=
  ⟨rfl, rfl, rfl, rfl, rfl, fun _ => ⟨rfl, rfl, rfl⟩, fun _ _ => rfl⟩

@[simp] theorem State.elapse_noticed (ms : Nat) (s : State) : (s.elapse ms).noticed = s.noticed := by
  simp only [State.noticed, State.elapse_flags]
  rfl

@[simp] theorem State.hears_noticed (s : State) : s.hears.noticed = s.noticed := rfl

theorem Link.heard_earlyIn (l : Link) : l.heard.earlyIn = l.earlyIn := by
  rw [Link.heard_eq]

theorem State.Course.refl : State.Course c s s := .still .refl rfl (.inl rfl) Output.Steps.refl.spaced id

theorem State.Course.hears : State.Course c s s.hears :=
  .still (.of_control rfl rfl rfl rfl rfl rfl) rfl (.inl rfl) Output.Steps.refl.spaced
    fun he => by rwa [State.hears_link', Link.heard_earlyIn] at he

theorem Inner.whenActing (h : Inner c f) (hst : ∀ s, (f s).control.state = s.control.state) :
    State.Course c s (s.whenActing f) := by
  unfold State.whenActing
  split_ifs
  · exact .watched (h.carries s) (fun _ => .inl (hst s)) (h.steps s).spaced fun he => .inl (h.early s he)
  · exact .refl

/-- The expiry of a timer, its inner change moving the station state as R166's table allows. -/
theorem Inner.onExpiry {t : Timer} (h : Inner c f)
    (hst : s.Sound → ∀ left, t = some left →
      (f (s.elapse left)).control.state = s.control.state ∨ Steers c s.control.state (f (s.elapse left)).control.state) :
    State.Course c s (s.onExpiry t f) := by
  cases t with
  | none => exact .refl
  | some left =>
    refine .watched ((State.elapse_carries left s).trans (h.carries _)) (fun hs => hst hs left rfl)
      (h.steps (s.elapse left)).spaced.of_after fun he => .inl ?_
    have := h.early _ he
    simpa [Link.after] using this

theorem Inner.expiry {t : Timer} (h : Inner c f) (hst : ∀ s, (f s).control.state = s.control.state) :
    State.Course c s (s.onExpiry t f) :=
  h.onExpiry fun _ left _ => .inl (hst (s.elapse left))

theorem Inner.onMessage (h : Inner c f)
    (hst : s.Sound → (f s.hears).control.state = s.control.state ∨ Steers c s.control.state (f s.hears).control.state) :
    State.Course c s (s.onMessage f) := by
  unfold State.onMessage
  split_ifs
  · exact .hears
  · have hheard : State.Carries c s s.hears := .of_control rfl rfl rfl rfl rfl rfl
    refine .watched (hheard.trans (h.carries s.hears)) hst (h.steps s.hears).spaced
      fun he => .inl ?_
    have := h.early _ he
    rwa [State.hears_link', Link.heard_earlyIn] at this
  · exact .refl

theorem Inner.message (h : Inner c f) (hst : ∀ s, (f s).control.state = s.control.state) :
    State.Course c s (s.onMessage f) :=
  h.onMessage fun _ => .inl (hst s.hears)

/-! ## The restart within an event -/

theorem State.restarted_carries (s : State) : State.Carries c s s.restarted :=
  ⟨by simp [State.restarted], by simp [State.restarted], by simp [State.restarted], by simp [State.restarted],
    by simp [State.restarted, State.own], fun _ => by simp [State.restarted, State.cfg],
    fun _ _ => by simp [State.restarted]⟩

theorem State.restarted_state (s : State) : s.restarted.control.state = .starting := by
  simp [State.restarted]

theorem State.Course.settles {u : State} (hc : c = .restartTakesEffect ∨ LetsGo c)
    (hp : u.control.restartPending = true → s.control.restartPending = true) (hcarries : State.Carries c s u)
    (hspaced : Output.Steps s.own s.output u.output) (hstill : State.Course c s u) :
    State.Course c s u.settleRestart := by
  cases hd : u.restartDue with
  | true =>
    rw [State.settleRestart_of_due hd]
    refine .restarts hc (hp (u.restartDue_iff.mp hd).1) (hcarries.trans u.restarted_carries) u.restarted_state
      (State.Steps.trans hspaced u.restarted_steps hcarries.own).spaced ?_
    rw [State.restarted_link, Link.restarted_eq]
  | false =>
    rw [State.settleRestart_of_not_due hd]
    exact hstill

theorem Link.answer_earlyIn (r : Reply) (l : Link) : (l.answer r).earlyIn = l.earlyIn := by rw [Link.answer_eq]

theorem Inner.onRequest {kind : RequestKind} {target : Fin 32} (hc : (requestOfCommand c).isSome) (h : Inner c f)
    (hst : s.Sound → (f s.hears).control.state = s.control.state ∨ Steers c s.control.state (f s.hears).control.state) :
    State.Course c s (s.onRequest kind target f) := by
  have hheard : State.Carries c s s.hears := .of_control rfl rfl rfl rfl rfl rfl
  unfold State.onRequest
  split_ifs
  · refine .settles (.inr (.inr (.inr (.inr hc)))) id (.of_control rfl rfl rfl rfl rfl rfl) .refl
      (.still (.of_control rfl rfl rfl rfl rfl rfl) rfl (.inl rfl) Output.Steps.refl.spaced fun he => ?_)
    rwa [State.reply_link', Link.answer_earlyIn, State.hears_link', Link.heard_earlyIn] at he
  · refine .watched (hheard.trans (h.carries s.hears)) hst (h.steps s.hears).spaced fun he => .inl ?_
    have := h.early _ he
    rwa [State.hears_link', Link.heard_earlyIn] at this
  · exact .hears
  · exact .refl

theorem Inner.request {kind : RequestKind} {target : Fin 32} (hc : (requestOfCommand c).isSome) (h : Inner c f)
    (hst : ∀ s, (f s).control.state = s.control.state) : State.Course c s (s.onRequest kind target f) :=
  h.onRequest hc fun _ => .inl (hst s.hears)

end

end Sys2Proof.Machine
end

section
/-! The course of every command, one by one. -/

namespace Sys2Proof.Machine

section
variable {c : Instr}

/-! ## The inner changes of the commands -/

theorem Inner.arbitrate (f : Arbiter → Arbiter) : Inner c (State.arbitrate f) :=
  .of_frame (fun s => by simp) fun s => s.arbitrate_steps f

theorem Inner.protect (f : Interlock → Interlock) : Inner c (State.protect f) :=
  .of_frame (fun s => by simp) fun s => s.protect_steps f

theorem Inner.withPeers (f : State → Peers) : Inner c fun s => State.recompute { s with peers := f s } :=
  .of_frame (fun s => by simp) fun s => State.recompute_steps { s with peers := f s }

theorem Inner.handFrost (f : Interlock → Interlock) : Inner c fun s => State.handFrost { s with interlock := f s.interlock } :=
  .of_frame (fun s => by simp) fun s => State.handFrost_steps { s with interlock := f s.interlock }

theorem Inner.overload : Inner c State.overload := by
  refine .of_frame (fun s => ?_) State.overload_steps
  obtain ⟨-, he⟩ | ⟨-, he⟩ := s.overload_cases <;> rw [he, s.shareAtOverload_frame] <;>
    exact ⟨rfl, rfl, rfl, rfl, rfl, rfl, rfl⟩

theorem Inner.post (source : Nat) (condition : PostCondition) (action : PostAction) (target : Nat) :
    Inner c (State.post source condition action target) := by
  refine .of_frame (fun s => ?_) fun s => s.post_steps source condition action target
  unfold State.post
  split_ifs <;> simp

theorem Inner.pass : Inner c State.pass := .of_frame (fun s => by simp [State.pass]) State.pass_steps

theorem Inner.endHold : Inner c State.endHold :=
  .of_frame (fun s => by simp [State.endHold]) fun s =>
    State.recompute_steps { s with share := { s.share with hold := none, cap := 0 } }

theorem Inner.doorOpens : Inner c State.doorOpens := by
  refine .of_frame (fun s => ?_) State.doorOpens_steps
  unfold State.doorOpens
  split_ifs <;> exact ⟨rfl, rfl, rfl, rfl, rfl, rfl, rfl⟩

theorem Inner.doorCloses : Inner c State.doorCloses := by
  refine .of_frame (fun s => ?_) State.doorCloses_steps
  unfold State.doorCloses
  split_ifs <;> simp

theorem Inner.endDwell : Inner c State.endDwell := .of_frame (fun s => by simp [State.endDwell]) State.endDwell_steps

theorem Inner.drive {f : Settings → Nat → Nat → Output → Output} (hf : ∀ cfg own fan o, Output.Steps own o (f cfg own fan o)) :
    Inner c fun s => s.drive (f s.cfg s.own s.effectiveFan) :=
  .of_frame (fun _ => ⟨rfl, rfl, rfl, rfl, rfl, rfl, rfl⟩) fun _ => hf _ _ _ _

theorem Inner.fillReport : Inner c State.fillReport := by
  have hearly : ∀ (r : ReportBody) (l : Link), (l.fill r).earlyIn = none := by
    intro r l
    unfold Link.fill
    split <;> rfl
  refine ⟨fun s => ?_, fun s => ?_, fun s he => ?_⟩
  all_goals unfold State.fillReport at *
  · split_ifs
    · exact .of_control rfl rfl rfl rfl rfl rfl
    · exact .refl
  · split_ifs <;> exact Output.Steps.refl
  · split_ifs at he
    · simp [hearly] at he
    · exact he

/-- An event of the peer table's entries reaches the sensing unit (R13, R41). -/
theorem Inner.handEntry (hc : Enters c) (number : Nat) (f : State → Peers) :
    Inner c fun s => State.handEntry number { s with peers := f s } := by
  refine ⟨fun s => ⟨by simp, by simp, by simp, by simp, by simp [State.own], fun _ => by simp [State.cfg],
    fun _ hn => absurd hc hn⟩, fun s => State.handEntry_steps number { s with peers := f s }, fun s he => ?_⟩
  simpa using he

theorem Inner.reportFrom {source : Nat} {r : ReportBody} (hc : Enters c) : Inner c (State.reportFrom source r) := by
  refine ⟨fun s => ?_, State.reportFrom_steps source r, fun s he => ?_⟩
  all_goals unfold State.reportFrom State.duplicateHeard at *
  all_goals dsimp only at *
  · split_ifs
    · exact .of_control rfl rfl rfl rfl rfl rfl
    · exact .of_control rfl rfl rfl rfl rfl rfl
    · exact (Inner.handEntry hc source fun s => { s.peers with table := writeEntry (entryOf source r) s.peers.table }).carries s
    · exact .refl
  · split_ifs at he
    · exact he
    · exact he
    · simpa using he
    · exact he

theorem Inner.sample {ch : Channel} {code : Nat} (hc : Samples c) :
    Inner c fun s => (s.takeSample ch code).afterSample ch := by
  have hcontrol : ∀ (s : State) (x : Sensing), let t := State.afterSample ch { s with sensing := x }
      t.pending = s.pending ∧ t.ties = s.ties ∧ t.wire = s.wire ∧ t.micros = s.micros ∧ t.control = s.control
        ∧ t.link = s.link := by
    intro s x
    cases ch with
    | coil =>
      unfold State.afterSample State.judgeFrost
      dsimp only
      split_ifs <;> simp
    | ret => exact ⟨rfl, rfl, rfl, rfl, rfl, rfl⟩
    | discharge => simp [State.afterSample]
    | fresh => exact ⟨rfl, rfl, rfl, rfl, rfl, rfl⟩
  refine ⟨fun s => ?_, fun s => State.sample_steps ch code s, fun s he => ?_⟩
  · rw [State.takeSample_frame]
    obtain ⟨h1, h2, h3, h4, h5, -⟩ := hcontrol s (s.takeSample ch code).sensing
    exact ⟨h1, h2, h3, h4, congrArg Control.own h5,
      fun _ => ⟨congrArg Control.cfg h5, congrArg Control.cfgDefault h5, congrArg Control.cfgClamped h5⟩,
      fun hn => absurd hc hn⟩
  · rw [State.takeSample_frame] at he
    obtain ⟨-, -, -, -, -, h6⟩ := hcontrol s (s.takeSample ch code).sensing
    rwa [h6] at he

theorem Inner.supplySample (code : Fin 1024) :
    Inner (.supplySample code) fun s => { s with
      sensing := { s.sensing with supply := some (supplyValue code.val) }
      interlock := s.interlock.judgeSupply s.cfg (supplyValue code.val) } :=
  ⟨fun _ => ⟨rfl, rfl, rfl, rfl, rfl, fun _ => ⟨rfl, rfl, rfl⟩, fun hn => absurd (.inr ⟨code, rfl⟩) hn⟩,
    fun _ => Output.Steps.refl, fun _ => id⟩

theorem Inner.silencePanel :
    Inner c fun s => { s with peers := { s.peers with panel := { s.peers.panel with silence := none } } } :=
  .of_frame (fun _ => ⟨rfl, rfl, rfl, rfl, rfl, rfl, rfl⟩) fun _ => Output.Steps.refl

/-! ## Inner changes that leave the station state -/

theorem State.fillReport_state (s : State) : s.fillReport.control.state = s.control.state := by
  unfold State.fillReport
  split_ifs <;> rfl

theorem State.overload_state (s : State) : s.overload.control.state = s.control.state := by
  obtain ⟨-, he⟩ | ⟨-, he⟩ := s.overload_cases <;> rw [he, s.shareAtOverload_frame] <;> rfl

theorem State.reportFrom_state (source : Nat) (r : ReportBody) (s : State) :
    (s.reportFrom source r).control.state = s.control.state := by
  unfold State.reportFrom State.duplicateHeard
  dsimp only
  split_ifs <;> simp

theorem State.doorOpens_state (s : State) : s.doorOpens.control.state = s.control.state := by
  unfold State.doorOpens
  split_ifs <;> rfl

theorem State.doorCloses_state (s : State) : s.doorCloses.control.state = s.control.state := by
  unfold State.doorCloses
  split_ifs <;> simp

theorem State.afterSample_control (ch : Channel) (s : State) : (s.afterSample ch).control = s.control := by
  cases ch with
  | coil =>
    unfold State.afterSample State.judgeFrost
    dsimp only
    split_ifs <;> simp
  | ret => rfl
  | discharge => simp [State.afterSample]
  | fresh => rfl

/-! ## The entries to the station states -/

/-- An entry to another station state carries over what it must. -/
theorem State.Carries.of_entry {s t : State} {state : StationState} {listen test : Timer} (hp : t.pending = s.pending)
    (ht : t.ties = s.ties) (hw : t.wire = s.wire) (hm : t.micros = s.micros)
    (hc : t.control = { s.control with state := state, listen := listen, test := test }) (hs : t.sensing = s.sensing) :
    State.Carries c s t :=
  ⟨hp, ht, hw, hm, by rw [State.own, hc]; rfl, fun _ => by simp only [State.cfg, hc, and_self], fun _ _ => hs⟩

theorem State.enterStandby_carries (s : State) : State.Carries c s s.enterStandby :=
  .of_entry (by simp) (by simp) (by simp) (by simp) s.enterStandby_control' (by simp)

theorem State.enterRunning_carries (s : State) : State.Carries c s s.enterRunning :=
  .of_entry (by simp) (by simp) (by simp) (by simp) s.enterRunning_control' (by simp)

theorem Inner.enterStandby : Inner c State.enterStandby :=
  ⟨State.enterStandby_carries, State.enterStandby_steps, fun s he => by simpa using he⟩

theorem Inner.endListening : Inner c State.endListening := by
  refine ⟨fun s => ?_, State.endListening_steps, fun s he => ?_⟩
  all_goals unfold State.endListening at *
  all_goals dsimp only at *
  · split_ifs
    · rw [State.enterStandby_listened]
      exact .of_entry (by simp) (by simp) (by simp) (by simp) s.enterStandby_control' (by simp)
    · rw [State.enterRunning_listened]
      exact .of_entry (by simp) (by simp) (by simp) (by simp) s.enterRunning_control' (by simp)
  · split_ifs at he
    · rw [State.enterStandby_listened] at he
      exact he
    · rw [State.enterRunning_listened] at he
      exact he

/-- The end of the listen period brings RUNNING or STANDBY (R169). -/
theorem State.endListening_state (s : State) :
    s.endListening.control.state = .standby ∨ s.endListening.control.state = .running := by
  unfold State.endListening
  dsimp only
  split_ifs <;> simp

theorem State.followPanel_carries (changed silent : Bool) (s : State) : State.Carries c s (s.followPanel changed silent) := by
  obtain ⟨-, -, -, he⟩ | ⟨-, -, -, he⟩ | ⟨-, -, he⟩ := s.followPanel_cases changed silent <;> rw [he]
  · exact s.enterStandby_carries
  · exact s.enterRunning_carries
  · exact .refl

theorem State.followPanel_link (changed silent : Bool) (s : State) : (s.followPanel changed silent).link = s.link := by
  obtain ⟨-, -, -, he⟩ | ⟨-, -, -, he⟩ | ⟨-, -, he⟩ := s.followPanel_cases changed silent <;> rw [he]
  · exact s.enterStandby_link
  · exact s.enterRunning_link

/-- The station as a PANEL leaves it before it moves the station state: the record, and the arbiter's change (R49, R99). -/
def State.panelled (mode : PanelMode) (setpoint : Word) (s : State) : State :=
  let s1 : State := { s with peers := s.peers.takePanel mode setpoint }
  if mode = s.peers.panel.mode then s1 else s1.arbitrate (Arbiter.panelChange s.peers.panel.mode mode s1.isRunning)

theorem State.panel_eq (mode : PanelMode) (setpoint : Word) (s : State) :
    s.panel mode setpoint =
      (s.panelled mode setpoint).followPanel (decide (mode ≠ s.peers.panel.mode)) (!fresh s.peers.panel.silence) := rfl

/-- A PANEL leaves these before it moves the station state. -/
theorem State.panelled_frame (mode : PanelMode) (setpoint : Word) (s : State) :
    (s.panelled mode setpoint).pending = s.pending ∧ (s.panelled mode setpoint).ties = s.ties
    ∧ (s.panelled mode setpoint).wire = s.wire ∧ (s.panelled mode setpoint).micros = s.micros
    ∧ (s.panelled mode setpoint).control = s.control ∧ (s.panelled mode setpoint).sensing = s.sensing
    ∧ (s.panelled mode setpoint).link = s.link
    ∧ (s.panelled mode setpoint).peers = s.peers.takePanel mode setpoint := by
  unfold State.panelled
  dsimp only
  split_ifs <;> simp

theorem Inner.panel (mode : PanelMode) (setpoint : Word) : Inner c (State.panel mode setpoint) := by
  refine ⟨fun s => ?_, State.panel_steps mode setpoint, fun s he => ?_⟩
  all_goals obtain ⟨h1, h2, h3, h4, h5, h6, h7, -⟩ := s.panelled_frame mode setpoint
  · rw [State.panel_eq]
    exact State.Carries.trans (.of_control h1 h2 h3 h4 h5 h6) (State.followPanel_carries _ _ _)
  · rwa [State.panel_eq, State.followPanel_link, h7] at he

/-- A PANEL moves the station state as R166's table says. -/
theorem State.panel_state (mode : PanelMode) (setpoint : Word) (s : State) :
    (s.panel mode setpoint).control.state = s.control.state
    ∨ Steers (.panelArrival mode setpoint) s.control.state (s.panel mode setpoint).control.state := by
  obtain ⟨-, -, -, -, h5, -, -, h8⟩ := s.panelled_frame mode setpoint
  rw [State.panel_eq]
  generalize decide (mode ≠ s.peers.panel.mode) = changed
  generalize (!fresh s.peers.panel.silence) = silent
  obtain ⟨hrun, hoff, -, he⟩ | ⟨hrest, hon, -, he⟩ | ⟨-, -, he⟩ :=
    (s.panelled mode setpoint).followPanel_cases changed silent <;> rw [he]
  · rw [h5] at hrun
    rw [h8] at hoff
    have hoff : mode = .off := hoff
    rw [hrun, State.enterStandby_control', hoff]
    exact .inr ⟨setpoint, rfl⟩
  · rw [h5] at hrest
    rw [h8] at hon
    rw [State.enterRunning_control']
    obtain hrest | hrest := hrest <;> rw [hrest] <;> exact .inr ⟨mode, setpoint, rfl, hon⟩
  · exact .inl (by rw [h5])

/-! ## Requests -/

theorem Inner.reply (k : RequestKind) (r : Result) (p : State → List Byte) : Inner c fun s => s.reply k r (p s) :=
  ⟨fun _ => .of_control rfl rfl rfl rfl rfl rfl, fun _ => Output.Steps.refl,
    fun _ he => by rwa [State.reply_link', Link.answer_earlyIn] at he⟩

/-- A change with a reply after it is judged by the change. -/
theorem State.reply_carries {s t : State} (h : State.Carries c s t) (k : RequestKind) (r : Result) (p : List Byte) :
    State.Carries c s (t.reply k r p) :=
  h.trans (.of_control rfl rfl rfl rfl rfl rfl)

theorem State.reply_early {s t : State} (h : t.link = s.link) (k : RequestKind) (r : Result) (p : List Byte)
    (he : (t.reply k r p).link.earlyIn.isSome) : s.link.earlyIn.isSome := by
  rwa [State.reply_link', Link.answer_earlyIn, h] at he

theorem State.reply_early_self {s : State} (k : RequestKind) (r : Result) (p : List Byte)
    (he : (s.reply k r p).link.earlyIn.isSome) : s.link.earlyIn.isSome :=
  State.reply_early rfl k r p he

theorem State.reply_carries_self {s : State} (k : RequestKind) (r : Result) (p : List Byte) :
    State.Carries c s (s.reply k r p) :=
  .of_control rfl rfl rfl rfl rfl rfl

theorem Inner.answerPeer (argument : Nat) : Inner c (State.answerPeer argument) := by
  refine ⟨fun s => ?_, fun s => ?_, fun s he => ?_⟩
  all_goals unfold State.answerPeer at *
  · split <;> exact State.reply_carries_self _ _ _
  · split <;> exact Output.Steps.refl
  · split at he <;> exact State.reply_early_self _ _ _ he

theorem State.enterTest_carries (s : State) : State.Carries c s s.enterTest :=
  .of_entry (listen := s.control.listen) rfl rfl rfl rfl rfl rfl

theorem State.setTest_carries (s : State) (t : Timer) :
    State.Carries c s { s with control := { s.control with test := t } } :=
  .of_entry (state := s.control.state) (listen := s.control.listen) rfl rfl rfl rfl rfl rfl

theorem State.makeSetting_carries (output : TestOutput) (value : Nat) (s : State) :
    State.Carries c s (s.makeSetting output value) :=
  .of_control rfl rfl rfl rfl rfl rfl

theorem Inner.testRequest (argument value : Nat) : Inner c (State.testRequest argument value) := by
  refine ⟨fun s => ?_, State.testRequest_steps argument value, fun s he => ?_⟩
  all_goals unfold State.testRequest State.testFitted at *
  · split
    · split_ifs
      · split
        · exact State.reply_carries (s.enterTest_carries.trans (State.makeSetting_carries _ _ _)) _ _ _
        · exact State.reply_carries ((s.setTest_carries _).trans (State.makeSetting_carries _ _ _)) _ _ _
        all_goals exact State.reply_carries_self _ _ _
      · exact State.reply_carries_self _ _ _
    · exact State.reply_carries_self _ _ _
  · split at he
    · split_ifs at he
      · split at he
        · exact State.reply_early (by rw [State.makeSetting_link, State.enterTest_link]) _ _ _ he
        · exact State.reply_early (by rw [State.makeSetting_link]) _ _ _ he
        all_goals exact State.reply_early_self _ _ _ he
      · exact State.reply_early_self _ _ _ he
    · exact State.reply_early_self _ _ _ he

/-- TEST_OUTPUT moves the station state from STANDBY to TEST alone (R174). -/
theorem State.testRequest_state (target : Fin 32) (argument : Byte) (value : Word) (n v : Nat) (s : State) :
    (s.testRequest n v).control.state = s.control.state
    ∨ Steers (.testOutput target argument value) s.control.state (s.testRequest n v).control.state := by
  unfold State.testRequest State.testFitted
  split
  · split_ifs
    · split
      · next hs =>
        rw [hs]
        exact .inr ⟨target, argument, value, rfl⟩
      all_goals exact .inl rfl
    · exact .inl rfl
  · exact .inl rfl

theorem Inner.endTestRequest : Inner c State.endTestRequest := by
  refine ⟨fun s => ?_, State.endTestRequest_steps, fun s he => ?_⟩
  all_goals unfold State.endTestRequest at *
  · split
    · exact State.reply_carries s.enterStandby_carries _ _ _
    all_goals exact State.reply_carries_self _ _ _
  · split at he
    · exact State.reply_early s.enterStandby_link _ _ _ he
    all_goals exact State.reply_early_self _ _ _ he

theorem State.endTestRequest_state (target : Fin 32) (s : State) :
    s.endTestRequest.control.state = s.control.state
    ∨ Steers (.endTest target) s.control.state s.endTestRequest.control.state := by
  unfold State.endTestRequest
  split
  · next hs =>
    rw [hs]
    exact .inr (.inr ⟨target, rfl⟩)
  all_goals exact .inl rfl

theorem Inner.restartRequest : Inner c State.restartRequest := by
  refine ⟨fun s => ?_, fun s => ?_, fun s he => ?_⟩
  all_goals unfold State.restartRequest at *
  · split <;> exact ⟨rfl, rfl, rfl, rfl, rfl, fun _ => ⟨rfl, rfl, rfl⟩, fun _ _ => rfl⟩
  · split <;> exact Output.Steps.refl
  · split at he
    all_goals rwa [State.reply_link', Link.answer_earlyIn] at he

theorem State.restartRequest_state (s : State) : s.restartRequest.control.state = s.control.state := by
  unfold State.restartRequest
  split <;> rfl

theorem Inner.clearLockRequest : Inner c State.clearLockRequest := by
  refine ⟨fun s => ?_, State.clearLockRequest_steps, fun s he => ?_⟩
  all_goals unfold State.clearLockRequest at *
  · split
    · exact State.reply_carries (.of_control (by simp) (by simp) (by simp) (by simp) (by simp) (by simp)) _ _ _
    all_goals exact State.reply_carries_self _ _ _
  · split at he
    · exact State.reply_early (s.protect_link _) _ _ _ he
    all_goals exact State.reply_early_self _ _ _ he

theorem State.clearLockRequest_state (s : State) : s.clearLockRequest.control.state = s.control.state := by
  unfold State.clearLockRequest
  split
  · simp [State.reply]
  all_goals rfl

end

end Sys2Proof.Machine
end

section
/-! Every command has its course, and the laws over every command that follow: the station state's moves, what holds from one
step to the next, and the spacing of stages (section 9.1, section 7.2; "What each step holds"). -/

namespace Sys2Proof.Machine

section
variable (s : State)

/-! ## Beginnings -/

theorem State.course_coldStart (straps : BitVec 4) : State.Course (.coldStart straps) s (s.coldStart straps) := by
  refine .begins (.inl ⟨straps, .inl rfl⟩) rfl rfl rfl rfl (.inl ⟨?_, rfl, rfl⟩)
  unfold State.coldStart
  dsimp only [State.coldValues]
  split_ifs <;> rfl

theorem State.course_supplyFall : State.Course .logicSupplyFall s (if s.pins.powered then s.powerDown else s) := by
  have hc : Begins .logicSupplyFall := .inr (.inr rfl)
  split_ifs
  · exact .begins hc rfl rfl rfl rfl (.inl ⟨rfl, rfl, rfl⟩)
  · exact .begins hc rfl rfl rfl rfl (.inr rfl)

theorem State.course_resetPinLow :
    State.Course .resetPinLow s (if s.pins.resetLow then s
      else if s.pins.powered then s.holdReset
      else { s with pins := { s.pins with resetLow := true } }) := by
  have hc : Begins .resetPinLow := .inr (.inl rfl)
  split_ifs
  · exact .begins hc rfl rfl rfl rfl (.inr rfl)
  · exact .begins hc rfl rfl rfl rfl (.inl ⟨rfl, rfl, rfl⟩)
  · exact .begins hc rfl rfl rfl rfl (.inr rfl)

theorem State.course_pinReset (straps : BitVec 4) :
    State.Course (.pinReset straps) s (if s.pins.powered then s.releaseReset straps
      else { s with pins := { s.pins with resetLow := false } }) := by
  have hc : Begins (.pinReset straps) := .inl ⟨straps, .inr rfl⟩
  unfold State.releaseReset
  split_ifs
  · exact .begins hc rfl rfl rfl rfl (.inl ⟨rfl, rfl, rfl⟩)
  · exact .begins hc rfl rfl rfl rfl (.inl ⟨rfl, rfl, rfl⟩)
  · exact .begins hc rfl rfl rfl rfl (.inr rfl)

/-! ## The configuration read -/

theorem State.endRead_carries (bytes record : List Byte) : State.Carries (.configurationReadEnd bytes) s (s.endRead record) := by
  rw [State.endRead_eq]
  exact ⟨by simp [State.configured], by simp [State.configured], by simp [State.configured], by simp [State.configured],
    by simp [State.configured, State.own], fun hn => absurd ⟨bytes, rfl⟩ hn, fun _ _ => by simp [State.configured]⟩

theorem State.course_readEnd (bytes : List Byte) :
    State.Course (.configurationReadEnd bytes) s
      (if s.awake && s.control.reading then (s.readTimeSpent bytes).endRead bytes else s) := by
  split_ifs with h
  · rw [Bool.and_eq_true] at h
    have hst := Control.starting_of_reading h.2
    have hend : ∀ u : State, (u.endRead bytes).control.state = u.control.state ∧ (u.endRead bytes).link = u.link := by
      intro u
      rw [State.endRead_eq, State.handCeiling_control, State.handCeiling_link]
      exact ⟨rfl, rfl⟩
    unfold State.readTimeSpent
    split_ifs
    · refine .still ((State.elapse_carries _ s).trans (State.endRead_carries _ bytes bytes)) (hend _).1 (.inr ?_)
        (State.endRead_steps bytes (s.elapse (s.control.read.getD 0))).spaced.of_after fun he => ?_
      · rw [(hend _).1]
        exact hst
      · rw [(hend _).2] at he
        simpa [Link.after] using he
    · refine .still (s.endRead_carries bytes bytes) (hend _).1 (.inr ?_) (s.endRead_steps bytes).spaced fun he => ?_
      · rw [(hend _).1]
        exact hst
      · rwa [(hend _).2] at he
  · exact .refl

/-! ## The line -/

theorem State.course_onLine {c : Instr} {f : Link → Link} (hf : (f s.link).earlyIn = s.link.earlyIn) :
    State.Course c s (s.onLine f) := by
  unfold State.onLine
  split_ifs
  · exact .watched (.of_control rfl rfl rfl rfl rfl rfl) (fun _ => .inl rfl) Output.Steps.refl.spaced
      fun he => .inl (by rwa [hf] at he)
  · exact .refl

theorem Link.begin_earlyIn (mayReport : Bool) (l : Link) : (l.begin mayReport).earlyIn = l.earlyIn := by
  unfold Link.begin
  split <;> rfl

theorem Link.fail_earlyIn (l : Link) : l.fail.earlyIn = l.earlyIn := by
  cases ha : l.attempt with
  | none => rw [Link.fail_of_none ha]
  | some a =>
    obtain ⟨-, he⟩ | ⟨-, -, he⟩ | ⟨-, -, he⟩ := Link.fail_cases ha <;> rw [he]
    · split_ifs <;> rfl
    · split_ifs <;> rfl

/-- A completion leaves an early report as it was, stops it, or makes one due a quarter period on (R33). -/
theorem Link.complete_earlyIn (cfg : Settings) (l : Link) :
    (l.complete cfg).earlyIn = l.earlyIn ∨ (l.complete cfg).earlyIn = none
    ∨ ((l.complete cfg).earlyIn = some (cfg.period / 4) ∧ (l.complete cfg).sinceReport = some 0) := by
  cases ha : l.attempt with
  | none => exact .inl (by rw [Link.complete_of_none cfg ha])
  | some a =>
    obtain ⟨-, he⟩ | ⟨-, -, he⟩ | ⟨-, -, he⟩ := Link.complete_cases ha cfg <;> rw [he]
    · exact .inl rfl
    · exact .inl rfl
    · dsimp only
      split_ifs
      · exact .inr (.inr ⟨rfl, rfl⟩)
      · exact .inr (.inl rfl)

theorem State.complete_earlyKept : State.EarlyKept .attemptComplete s { s with link := s.link.complete s.cfg } := by
  intro he
  obtain h | h | ⟨h1, h2⟩ := Link.complete_earlyIn s.cfg s.link
  · exact .inl (by rwa [h] at he)
  · simp [h] at he
  · exact .inr ⟨rfl, h1, h2⟩

theorem State.course_endAttempt {c : Instr} (hc : LetsGo c) {f : Link → Link}
    (hf : State.EarlyKept c s { s with link := f s.link }) : State.Course c s (s.endAttempt f) := by
  unfold State.endAttempt
  split_ifs with ha
  · have hcarries : State.Carries c s (s.onLine f) := by
      unfold State.onLine
      rw [if_pos ha]
      exact .of_control rfl rfl rfl rfl rfl rfl
    have hcontrol : (s.onLine f).control = s.control := by
      unfold State.onLine
      rw [if_pos ha]
      rfl
    have houtput : (s.onLine f).output = s.output := by
      unfold State.onLine
      rw [if_pos ha]
      rfl
    refine .settles (.inr hc) (by rw [hcontrol]; exact id) hcarries (by rw [houtput]; exact .refl) ?_
    unfold State.onLine
    rw [if_pos ha]
    exact .watched (.of_control rfl rfl rfl rfl rfl rfl) (fun _ => .inl rfl) Output.Steps.refl.spaced hf
  · exact .refl

theorem State.course_receptionDrop (bytes : List Byte) :
    State.Course (.receptionDrop bytes) s (if s.attentive then s.hears else s) := by
  split_ifs
  · exact .hears
  · exact .refl

theorem State.course_restart : State.Course .restartTakesEffect s s.settleRestart :=
  .settles (.inl rfl) id .refl .refl .refl

/-! ## The pins -/

/-- A pin at its new level, before its event. -/
theorem State.course_pin {c : Instr} (p : Pins) {f : State → State} (h : Inner c f)
    (hst : ∀ s, (f s).control.state = s.control.state) :
    State.Course c s (State.whenActing f { s with pins := p }) := by
  have hpin : State.Carries c s { s with pins := p } := .of_control rfl rfl rfl rfl rfl rfl
  unfold State.whenActing
  split_ifs
  · exact .watched (hpin.trans (h.carries _)) (fun _ => .inl (hst _)) (h.steps { s with pins := p }).spaced
      fun he => .inl (h.early { s with pins := p } he)
  · exact .still hpin rfl (.inl rfl) Output.Steps.refl.spaced id

/-! ## The delays and the fan proof -/

/-- A change of the output stage alone, once the time left has passed. -/
theorem State.course_drive {c : Instr} {t : Timer} {f : State → Output → Output}
    (hf : ∀ u : State, u.own = s.own → Output.Spaced c s.own u.output (f u u.output)) :
    State.Course c s (s.onExpiry t fun u => u.drive (f u)) := by
  cases t with
  | none => exact .refl
  | some left =>
    exact .watched ((State.elapse_carries left s).trans (.of_control rfl rfl rfl rfl rfl rfl)) (fun _ => .inl rfl)
      (Output.Spaced.of_after (ms := left) (hf (s.elapse left) rfl)) fun he => .inl (by simpa [State.drive, Link.after] using he)

theorem Output.spaced_endUpDelay (own : Nat) (o : Output) :
    Output.Spaced .stepUpDelayExpiry own o (Output.settle own { o with upDelay := none }) := by
  refine ⟨fun hlt => ?_, fun _ _ => .inl rfl⟩
  obtain ⟨h1, h2, -, h4⟩ := (Output.settle_steps own { o with upDelay := none }).on hlt
  exact ⟨h1, h2, .inr rfl, fun hz => .inl (h4 hz)⟩

theorem Output.spaced_proveFan (own : Nat) (o : Output) :
    Output.Spaced .fanProven own o (Output.settle own { o with proof := .proven }) := by
  have h := Output.settle_steps own { o with proof := .proven }
  refine ⟨fun hlt => ?_, fun hs hn => .inr (h.stop hs hn)⟩
  obtain ⟨h1, h2, h3, -⟩ := h.on hlt
  exact ⟨h1, h2, .inl h3, fun _ => .inr rfl⟩

theorem Output.spaced_endDownDelay (c : Instr) (own : Nat) (o : Output) :
    Output.Spaced c own o (Output.settle own { o with downDelay := none }) :=
  (Output.Steps.trans (k := { o with downDelay := none }) (.of_eq rfl rfl id) (Output.settle_steps _ _)).spaced

/-! ## The moves of the station state -/

section
variable {s : State} (hs : s.Sound)
include hs

theorem State.Sound.state_of_listen (hl : s.control.listen.isSome) : s.control.state = .starting := by
  obtain ⟨-, -, -, -, -, hlisten, -⟩ := hs.1
  exact (hlisten.mp hl).1

theorem State.Sound.state_of_test (ht : s.control.test.isSome) : s.control.state = .test := by
  obtain ⟨-, -, -, -, -, -, -, htest, -⟩ := hs.1
  exact htest.mp ht

end

/-! ## Every command -/

/-- Every command takes its step in every state, on one of the courses. -/
theorem State.course (c : Instr) : ∃ t, exec c s = .next t ∧ State.Course c s t := by
  cases c with
  | coldStart straps => exact ⟨_, rfl, s.course_coldStart straps⟩
  | resetPinLow => exact ⟨_, rfl, s.course_resetPinLow⟩
  | pinReset straps => exact ⟨_, rfl, s.course_pinReset straps⟩
  | configurationReadEnd bytes => exact ⟨_, rfl, s.course_readEnd bytes⟩
  | listenTimerExpiry =>
    refine ⟨_, rfl, Inner.endListening.onExpiry fun hs left hl => .inr ?_⟩
    rw [hs.state_of_listen (by simp [hl])]
    obtain he | he := (s.elapse left).endListening_state <;> rw [he] <;> exact rfl
  | restartTakesEffect => exact ⟨_, rfl, s.course_restart⟩
  | temperatureSample channel code =>
    refine ⟨_, rfl, (Inner.sample (.inl ⟨channel, code, rfl⟩)).whenActing fun s => ?_⟩
    rw [State.takeSample_frame, State.afterSample_control]
  | supplySample code =>
    exact ⟨_, rfl, Inner.whenActing (Inner.supplySample code) fun _ => rfl⟩
  | attemptBegin => exact ⟨_, rfl, s.course_onLine (Link.begin_earlyIn _ _)⟩
  | attemptComplete => exact ⟨_, rfl, s.course_endAttempt (.inl rfl) s.complete_earlyKept⟩
  | contentionLoss =>
    exact ⟨_, rfl, s.course_endAttempt (.inr (.inl rfl)) fun he => .inl (by rwa [Link.fail_earlyIn] at he)⟩
  | attemptError =>
    exact ⟨_, rfl, s.course_endAttempt (.inr (.inr (.inl rfl))) fun he => .inl (by rwa [Link.fail_earlyIn] at he)⟩
  | reportDue => exact ⟨_, rfl, Inner.fillReport.expiry State.fillReport_state⟩
  | earlyReportDue => exact ⟨_, rfl, Inner.fillReport.expiry State.fillReport_state⟩
  | firstReportDue => exact ⟨_, rfl, Inner.fillReport.expiry State.fillReport_state⟩
  | receptionDrop bytes => exact ⟨_, rfl, s.course_receptionDrop bytes⟩
  | overloadArrival => exact ⟨_, rfl, Inner.overload.message State.overload_state⟩
  | postArrival source condition action target =>
    exact ⟨_, rfl, (Inner.post source condition action target).message fun s => by
      unfold State.post
      split_ifs <;> simp⟩
  | budgetArrival units => exact ⟨_, rfl, (Inner.withPeers fun s => s.peers.takeBudget units).message fun _ => rfl⟩
  | plantArrival capacity coolant fault =>
    exact ⟨_, rfl, (Inner.withPeers fun s => s.peers.takePlant capacity coolant fault).message fun _ => rfl⟩
  | panelArrival mode setpoint =>
    exact ⟨_, rfl, (Inner.panel mode setpoint).onMessage fun _ => s.hears.panel_state mode setpoint⟩
  | reportArrival source body =>
    exact ⟨_, rfl, (Inner.reportFrom (.inl ⟨source, body, rfl⟩)).message (State.reportFrom_state source body)⟩
  | readStatus target => exact ⟨_, rfl, (Inner.reply _ _ _).request rfl fun _ => rfl⟩
  | readPeer target argument =>
    exact ⟨_, rfl, (Inner.answerPeer argument.toNat).request rfl fun s => by
      unfold State.answerPeer
      split <;> rfl⟩
  | readConfig target => exact ⟨_, rfl, (Inner.reply _ _ _).request rfl fun _ => rfl⟩
  | testOutput target argument value =>
    exact ⟨_, rfl, (Inner.testRequest _ _).onRequest rfl fun _ => s.hears.testRequest_state target argument value _ _⟩
  | endTest target => exact ⟨_, rfl, Inner.endTestRequest.onRequest rfl fun _ => s.hears.endTestRequest_state target⟩
  | restart target => exact ⟨_, rfl, Inner.restartRequest.request rfl State.restartRequest_state⟩
  | clearLock target => exact ⟨_, rfl, Inner.clearLockRequest.request rfl State.clearLockRequest_state⟩
  | entryStale number =>
    exact ⟨_, rfl, (Inner.handEntry (.inr ⟨number, .inl rfl⟩) number
      fun s => { s.peers with table := setStanding number .stale s.peers.table }).expiry fun s => by simp⟩
  | entryLost number =>
    exact ⟨_, rfl, (Inner.handEntry (.inr ⟨number, .inr rfl⟩) number
      fun s => { s.peers with table := setStanding number .lost s.peers.table }).expiry fun s => by simp⟩
  | duplicateTimerExpiry => exact ⟨_, rfl, (Inner.withPeers fun s => { s.peers with duplicate := none }).expiry fun _ => rfl⟩
  | panelTimeout => exact ⟨_, rfl, Inner.silencePanel.expiry fun _ => rfl⟩
  | budgetTimeout =>
    exact ⟨_, rfl, (Inner.withPeers fun s => { s.peers with budget := { s.peers.budget with silence := none } }).expiry
      fun _ => rfl⟩
  | plantTimeout =>
    exact ⟨_, rfl, (Inner.withPeers fun s =>
      { s.peers with plant := { s.peers.plant with silence := none }, coolant := .cold }).expiry fun _ => rfl⟩
  | controlPass => exact ⟨_, rfl, Inner.pass.expiry fun _ => rfl⟩
  | overloadHoldExpiry => exact ⟨_, rfl, Inner.endHold.expiry fun _ => rfl⟩
  | modeTimerExpiry mode => exact ⟨_, rfl, (Inner.arbitrate _).expiry fun s => by simp⟩
  | doorInputOpen =>
    refine ⟨_, rfl, ?_⟩
    split_ifs
    · exact .refl
    · exact s.course_pin _ Inner.doorOpens State.doorOpens_state
  | doorInputClose =>
    refine ⟨_, rfl, ?_⟩
    split_ifs
    · exact s.course_pin _ Inner.doorCloses State.doorCloses_state
    · exact .refl
  | doorDwellExpiry => exact ⟨_, rfl, Inner.endDwell.expiry fun s => by simp [State.endDwell]⟩
  | doorTailExpiry => exact ⟨_, rfl, (Inner.arbitrate _).expiry fun s => by simp⟩
  | stepUpDelayExpiry => exact ⟨_, rfl, s.course_drive fun u hu => hu ▸ Output.spaced_endUpDelay u.own u.output⟩
  | stepDownDelayExpiry => exact ⟨_, rfl, s.course_drive fun u hu => hu ▸ Output.spaced_endDownDelay _ u.own u.output⟩
  | fanProven => exact ⟨_, rfl, s.course_drive fun u hu => hu ▸ Output.spaced_proveFan u.own u.output⟩
  | fanTick => exact ⟨_, rfl, s.course_drive fun u _ => (Output.tickFan_steps _ _ _ u.output).spaced⟩
  | damperTick => exact ⟨_, rfl, s.course_drive fun u _ => (Output.Steps.of_eq rfl rfl id).spaced⟩
  | afterRunExpiry => exact ⟨_, rfl, s.course_drive fun u _ => (Output.Steps.of_eq rfl rfl id).spaced⟩
  | heatLimitOpen =>
    refine ⟨_, rfl, ?_⟩
    split_ifs
    · exact .refl
    · exact s.course_pin _ (Inner.protect _) fun s => by simp
  | heatLimitClose =>
    refine ⟨_, rfl, ?_⟩
    split_ifs
    · exact s.course_pin _ (Inner.protect _) fun s => by simp
    · exact .refl
  | openDwellExpiry => exact ⟨_, rfl, (Inner.protect _).expiry fun s => by simp⟩
  | cooldownExpiry => exact ⟨_, rfl, (Inner.protect _).expiry fun s => by simp⟩
  | tripEntryAgeOut => exact ⟨_, rfl, (Inner.protect _).expiry fun s => by simp⟩
  | coldDwellExpiry => exact ⟨_, rfl, (Inner.handFrost Interlock.frosts).expiry fun s => by simp⟩
  | warmDwellExpiry => exact ⟨_, rfl, (Inner.handFrost Interlock.clears).expiry fun s => by simp⟩
  | lowDwellExpiry => exact ⟨_, rfl, (Inner.protect _).expiry fun s => by simp⟩
  | recoveryDwellExpiry => exact ⟨_, rfl, (Inner.protect _).expiry fun s => by simp⟩
  | dropTimerExpiry => exact ⟨_, rfl, (Inner.protect _).expiry fun s => by simp⟩
  | riseTimerExpiry => exact ⟨_, rfl, (Inner.protect _).expiry fun s => by simp⟩
  | testTimerExpiry =>
    refine ⟨_, rfl, Inner.enterStandby.onExpiry fun hs left ht => .inr ?_⟩
    rw [hs.state_of_test (by simp [ht])]
    exact .inl rfl
  | lineIdle => exact ⟨_, rfl, s.course_onLine (by rw [Link.idled_eq])⟩
  | logicSupplyFall => exact ⟨_, rfl, s.course_supplyFall⟩

end

/-! ## The laws -/

/-- The course of a command's event, from the state it leaves. -/
theorem State.course_of_exec {c : Instr} {s t : State} (ht : exec c s = .next t) : State.Course c s t := by
  obtain ⟨u, hu, hcourse⟩ := s.course c
  rw [hu] at ht
  cases ht
  exact hcourse

/-- Settles O51: on every course the station state stays, moves by R166's table, or comes to STARTING at a beginning, a stop
or a restart; no restart stands due in a sound station. -/
theorem stationStateMovesByTable : Obligations.StationStateMovesByTable := by
  intro c s hs t ht hne
  cases State.course_of_exec ht with
  | still _ hstate => exact absurd hstate hne
  | watched _ hstate =>
    have hsteer := (hstate hs).resolve_left hne
    rw [State.watch_control] at hne ⊢
    rename_i v _ _ _
    generalize s.control.state = a at hsteer
    generalize v.control.state = b at hsteer
    cases b with
    | starting => cases a <;> exact False.elim hsteer
    | running => cases a <;> exact hsteer
    | standby => cases a <;> exact hsteer
    | test => cases a <;> exact hsteer
  | begins hc _ _ _ _ hvalues =>
    obtain ⟨hst, -, -⟩ | he := hvalues
    · rw [hst]
      cases hs : s.control.state <;> exact .inr (.inl hc)
    · exact absurd (by rw [he]) hne
  | restarts hc hp _ hst =>
    rw [hst]
    cases hs : s.control.state
    all_goals exact hc.imp id fun hgo => .inr ⟨hgo, hp⟩

/-- Settles O52: whatever the course, the queue and the levels to come stand, and what it moves of the configuration and the
sensing unit is the command's own. -/
theorem commandsCompleteAndHold : Obligations.CommandsCompleteAndHold := by
  intro c s
  obtain ⟨t, ht, hcourse⟩ := s.course c
  have hcarried : Begins c ∧ t.pending = s.pending ∧ t.ties = s.ties ∧ t.wire = s.wire ∧ t.micros = s.micros
      ∨ State.Carries c s t := by
    cases hcourse with
    | still h => exact .inr h
    | watched h => exact .inr (h.trans (.of_control rfl rfl rfl rfl rfl rfl))
    | begins hc h1 h2 h3 h4 => exact .inl ⟨hc, h1, h2, h3, h4⟩
    | restarts _ _ h => exact .inr h
  obtain ⟨hc, h1, h2, h3, h4⟩ | h := hcarried
  · exact ⟨t, ht, h1, h2, h3, h4, fun hn => absurd hc hn, fun hn => absurd hc hn, fun hn => absurd hc hn⟩
  · exact ⟨t, ht, h.pending, h.ties, h.wire, h.micros, fun _ => h.own, fun _ => h.settled, fun _ => h.sensing⟩

/-- Settles O53: on every course the stages are spaced, and a beginning leaves none on. -/
theorem stageOnsSpaced : Obligations.StageOnsSpaced := by
  intro c s _ t ht
  have hspaced : Output.Spaced c s.own s.output t.output ∨ (Begins c ∧ t.output.stagesOn ≤ s.output.stagesOn) := by
    cases State.course_of_exec ht with
    | still _ _ _ h => exact .inl h
    | watched _ _ h => exact .inl h
    | begins hc _ _ _ _ hvalues =>
      obtain ⟨-, hz, -⟩ | he := hvalues
      · exact .inr ⟨hc, hz ▸ Nat.zero_le _⟩
      · exact .inr ⟨hc, by rw [he]⟩
    | restarts _ _ _ _ h => exact .inl h
  obtain ⟨hon, hstop⟩ | ⟨hc, hle⟩ := hspaced
  · exact ⟨hon, fun h1 h2 => (hstop h1 h2).imp id .inr⟩
  · exact ⟨fun hlt => by omega, fun _ _ => .inr (.inl hc)⟩

end Sys2Proof.Machine
end

section
/-! Early reports follow the changes that other stations watch, and nothing else brings one (R30, R33, R34, R35). -/

namespace Sys2Proof.Machine

/-! ## The report clock -/

/-- The time to the end of an early report's spacing, as the statement counts it (R33, R35). -/
theorem Link.spacingLeft_eq (cfg : Settings) (l : Link) :
    l.spacingLeft cfg =
      let lately := if l.sinceReport.isSome then l.sinceReport else l.sinceDiscard
      if lately.isSome then cfg.period / 4 - lately.getD 0 else 0 := by
  unfold Link.spacingLeft
  cases l.sinceReport with
  | some t => rfl
  | none => cases l.sinceDiscard <;> rfl

/-- The periodic report falls due no later than the early one would (R31, R33). -/
theorem Link.dueBefore_iff (cfg : Settings) (state : StationState) (l : Link) :
    l.dueBefore cfg state = true ↔
      let latest := if l.sinceDiscard.isSome then l.sinceDiscard else l.sinceReport
      latest.isSome ∧ (if state = .standby then 4 * cfg.period else cfg.period) - latest.getD 0 ≤ l.spacingLeft cfg := by
  have hperiod : reportPeriod cfg state = if state = .standby then 4 * cfg.period else cfg.period := by
    cases state <;> rfl
  unfold Link.dueBefore Link.periodicIn
  cases l.sinceDiscard with
  | some t => simp [hperiod]
  | none =>
    cases l.sinceReport with
    | some t => simp [hperiod]
    | none => simp

/-- What a change does at the link controller, said once (R30, R33). -/
theorem Link.notice_cases (cfg : Settings) (state : StationState) (l : Link) :
    (l.sendingReport = true ∧ l.notice cfg state = { l with changed := true })
    ∨ ((l.reportSlot.isSome ∨ l.firstIn.isSome ∨ l.earlyIn.isSome ∨ l.dueBefore cfg state = true) ∧ l.notice cfg state = l)
    ∨ l.notice cfg state = { l with earlyIn := some (l.spacingLeft cfg) } := by
  unfold Link.notice
  split_ifs with h1 h2
  · exact .inl ⟨h1, rfl⟩
  · refine .inr (.inl ⟨?_, rfl⟩)
    simpa only [Bool.or_eq_true, or_assoc] using h2
  · exact .inr (.inr rfl)

/-- The upkeep of a waiting report keeps whether there is one. -/
theorem Link.refresh_reportSlot_isSome (r : ReportBody) (l : Link) :
    (l.refresh r).reportSlot.isSome = l.reportSlot.isSome := by
  rw [Bool.eq_iff_iff, Option.isSome_iff_ne_none, Option.isSome_iff_ne_none, ne_eq, ne_eq, Link.refresh_reportSlot_eq_none]

/-! ## The values that other stations watch -/

theorem State.noticed_ne_iff (s t : State) :
    s.noticed ≠ t.noticed ↔ t.arbiter.governing ≠ s.arbiter.governing ∨ t.electricClaim ≠ s.electricClaim
      ∨ t.doorFlag ≠ s.doorFlag ∨ t.flags ≠ s.flags := by
  simp only [State.noticed, ne_eq, Noticed.mk.injEq, eq_comm (a := s.arbiter.governing), eq_comm (a := s.electricClaim),
    eq_comm (a := s.doorFlag), eq_comm (a := s.flags)]
  tauto

/-- What the statement asks of an event after which the link controller is `l`. -/
def State.ReportsFollow (c : Instr) (s t : State) : Prop :=
  (s.noticed ≠ t.noticed → s.control.state ≠ .starting → t.control.state ≠ .starting →
    (t.link.sendingReport = true ∧ t.link.changed = true) ∨ t.link.reportSlot.isSome ∨ t.link.firstIn.isSome
      ∨ (s.link.earlyIn.isSome ∧ t.link.earlyIn.isSome) ∨ t.link.dueBefore t.cfg t.control.state = true
      ∨ t.link.earlyIn = some (t.link.spacingLeft t.cfg))
  ∧ (s.link.earlyIn = none → t.link.earlyIn.isSome →
      (s.noticed ≠ t.noticed ∨ c = .attemptComplete) ∧ t.link.earlyIn = some (t.link.spacingLeft t.cfg))

/-- A change with nothing that other stations watch, and no early report brought. -/
theorem State.ReportsFollow.of_still {c : Instr} {s t : State} (hn : t.noticed = s.noticed ∨ t.control.state = .starting)
    (he : t.link.earlyIn.isSome → s.link.earlyIn.isSome) : State.ReportsFollow c s t := by
  refine ⟨fun hne _ hst => ?_, fun hnone hsome => ?_⟩
  · obtain hn | hn := hn
    · exact absurd hn.symm hne
    · exact absurd hn hst
  · have := he hsome
    simp [hnone] at this

/-- The early report of a completion is a quarter period on (R33). -/
theorem State.EarlyKept.spaced {c : Instr} {s v : State} (h : State.EarlyKept c s v) (hsome : v.link.earlyIn.isSome) :
    s.link.earlyIn.isSome ∨ (c = .attemptComplete ∧ v.link.earlyIn = some (v.link.spacingLeft v.cfg)) := by
  refine (h hsome).imp id fun ⟨hc, hearly, hsince⟩ => ⟨hc, ?_⟩
  rw [hearly, Link.spacingLeft_eq, hsince]
  rfl

/-- The upkeep of a waiting report leaves what the statement asks of the link controller. -/
theorem Link.refresh_asked (r : ReportBody) (n : Link) :
    (n.refresh r).sendingReport = n.sendingReport ∧ (n.refresh r).changed = n.changed
    ∧ (n.refresh r).reportSlot.isSome = n.reportSlot.isSome ∧ (n.refresh r).firstIn = n.firstIn
    ∧ (n.refresh r).earlyIn = n.earlyIn ∧ (∀ cfg state, (n.refresh r).dueBefore cfg state = n.dueBefore cfg state)
    ∧ ∀ cfg, (n.refresh r).spacingLeft cfg = n.spacingLeft cfg := by
  refine ⟨n.refresh_sendingReport r, ?_, n.refresh_reportSlot_isSome r, ?_⟩
  all_goals rw [n.refresh_frame r]
  exact ⟨rfl, rfl, fun _ _ => rfl, fun _ => rfl⟩

/-- The watch brings a report for a change, and an early one for nothing else. -/
theorem State.EarlyKept.follow {c : Instr} {s v : State} (h : State.EarlyKept c s v) :
    State.ReportsFollow c s (v.watch s) := by
  have hlink := v.watch_link s
  have hnoticed : (v.watch s).noticed = v.noticed := rfl
  have hcfg : (v.watch s).cfg = v.cfg := rfl
  unfold State.ReportsFollow
  rw [hnoticed, hlink, hcfg, State.watch_control]
  split_ifs with hn
  · obtain ⟨h1, h2, h3, h4, h5, h6, h7⟩ := Link.refresh_asked v.report (v.link.notice v.cfg v.control.state)
    simp only [Bool.and_eq_true, decide_eq_true_eq] at hn
    rw [h1, h2, h3, h4, h5, h6, h7]
    obtain ⟨hsend, he⟩ | ⟨hwait, he⟩ | he := Link.notice_cases v.cfg v.control.state v.link
    · rw [he]
      refine ⟨fun _ _ _ => .inl ⟨hsend, rfl⟩, fun hnone hsome => ⟨.inl hn.2, ?_⟩⟩
      obtain hs | ⟨-, hs⟩ := h.spaced hsome
      · simp [hnone] at hs
      · exact hs
    · rw [he]
      refine ⟨fun _ _ _ => ?_, fun hnone hsome => ⟨.inl hn.2, ?_⟩⟩
      · obtain hw | hw | hw | hw := hwait
        · exact .inr (.inl hw)
        · exact .inr (.inr (.inl hw))
        · obtain hs | ⟨-, hs⟩ := h.spaced hw
          · exact .inr (.inr (.inr (.inl ⟨hs, hw⟩)))
          · exact .inr (.inr (.inr (.inr (.inr hs))))
        · exact .inr (.inr (.inr (.inr (.inl hw))))
      · obtain hs | ⟨-, hs⟩ := h.spaced hsome
        · simp [hnone] at hs
        · exact hs
    · rw [he]
      exact ⟨fun _ _ _ => .inr (.inr (.inr (.inr (.inr rfl)))), fun _ _ => ⟨.inl hn.2, rfl⟩⟩
  · obtain ⟨h1, h2, h3, h4, h5, h6, h7⟩ := Link.refresh_asked v.report v.link
    rw [h1, h2, h3, h4, h5, h6, h7]
    refine ⟨fun hne _ hst => ?_, fun hnone hsome => ?_⟩
    · exact absurd (by simp [hne, hst]) hn
    · obtain hs | ⟨hc, hs⟩ := h.spaced hsome
      · simp [hnone] at hs
      · exact ⟨.inr hc, hs⟩

/-- Settles O32: on every course the watch brings the report of a change, or nothing that other stations watch has changed. -/
theorem earlyReportsFollowChanges : Obligations.EarlyReportsFollowChanges := by
  intro c s t ht
  have hfollow : State.ReportsFollow c s t := by
    cases State.course_of_exec ht with
    | still _ _ hn _ he => exact .of_still hn he
    | watched _ _ _ he => exact State.EarlyKept.follow he
    | begins _ _ _ _ _ hvalues =>
      obtain ⟨hst, -, he⟩ | he := hvalues
      · exact .of_still (.inr hst) fun hsome => by simp [he] at hsome
      · rw [he]
        exact .of_still (.inl rfl) id
    | restarts _ _ _ hst _ he => exact .of_still (.inr hst) fun hsome => by simp [he] at hsome
  unfold State.ReportsFollow at hfollow
  rw [State.noticed_ne_iff, Link.dueBefore_iff, Link.spacingLeft_eq] at hfollow
  exact hfollow

end Sys2Proof.Machine
end

section
/-! Beginnings, stops, the configuration read, the restart and the entries to the station states (chapter 9). -/

namespace Sys2Proof.Machine

/-- Settles O1: a step is the front command's meaning. -/
theorem stepRunsFrontCommand : Obligations.StepRunsFrontCommand := fun _ _ => rfl

/-! ## The beginnings and the stops -/

/-- The strap levels as a number, ST3 the highest bit (R180). -/
theorem ownNumber_eq (straps : BitVec 4) :
    ownNumber straps = 8 * bit (straps.getLsbD 3) + 4 * bit (straps.getLsbD 2) + 2 * bit (straps.getLsbD 1)
      + bit (straps.getLsbD 0) + 1 := by
  revert straps
  decide

/-- The blocks after a cold start, with station control's settings as they stand. -/
theorem State.atFirstValues_cold (control : Control) (s : State) (p : Pins) :
    State.AtFirstValues control.cfg.stages { s.coldValues control with pins := p } := by
  refine ⟨fun ch hch => ?_, rfl, rfl, rfl, rfl, rfl, rfl, rfl, rfl, rfl, rfl, rfl⟩
  cases ch <;> rfl

theorem State.atFirstValues_pin (control : Control) (s : State) (p : Pins) :
    State.AtFirstValues control.cfg.stages { s.pinValues control with pins := p } := by
  refine ⟨fun ch hch => ?_, rfl, rfl, rfl, rfl, rfl, rfl, rfl, rfl, rfl, rfl, rfl⟩
  cases ch <;> rfl

/-- A pin reset keeps the trip machine's state, cooldown and trip list (R154, R165). -/
theorem State.keepsTrip_pin (control : Control) (s : State) (p : Pins) : s.KeepsTrip { s.pinValues control with pins := p } := by
  refine ⟨rfl, rfl, rfl, ?_⟩
  change Interlock.effectiveCeiling { Interlock.initial control.cfg.stages with
    trip := s.interlock.trip, cooldown := s.interlock.cooldown, tripList := s.interlock.tripList } = _
  cases ht : s.interlock.trip <;> rfl

/-- Settles O18: the values of each beginning, read off its definition. -/
theorem coldStartAndPinResetBegin : Obligations.ColdStartAndPinResetBegin := by
  intro straps s
  dsimp only
  rw [← ownNumber_eq]
  refine ⟨⟨_, rfl, ?_⟩, ⟨_, rfl, ?_⟩⟩
  · unfold State.coldStart
    dsimp only
    split_ifs
    · exact ⟨⟨rfl, rfl, rfl, rfl, rfl, rfl, rfl⟩, rfl, State.atFirstValues_cold _ _ _, ⟨rfl, rfl, rfl, rfl⟩, rfl⟩
    · exact ⟨⟨rfl, rfl, rfl, rfl, rfl, rfl, rfl⟩, rfl, State.atFirstValues_cold _ _ _, ⟨rfl, rfl, rfl, rfl⟩, rfl⟩
  · unfold State.releaseReset
    by_cases hp : s.pins.powered = true
    · rw [if_pos hp]
      by_cases hpart : s.pins.resetLow = true ∧ s.pins.holdIsCold = true
      · rw [if_pos (by simpa using hpart)]
        exact ⟨fun _ hn => absurd hpart hn, fun _ _ => ⟨⟨rfl, rfl, rfl, rfl, rfl, rfl, rfl⟩, rfl, rfl, rfl, rfl⟩,
          fun _ => ⟨rfl, State.atFirstValues_cold _ _ _, rfl⟩, fun h => by simp [hp] at h⟩
      · rw [if_neg (by simpa using hpart)]
        exact ⟨fun _ _ => ⟨⟨rfl, rfl, rfl, rfl, rfl, rfl, rfl⟩, State.keepsTrip_pin _ _ _⟩, fun _ hc => absurd hc hpart,
          fun _ => ⟨rfl, State.atFirstValues_pin _ _ _, rfl⟩, fun h => by simp [hp] at h⟩
    · rw [if_neg hp]
      exact ⟨fun h => absurd h hp, fun h => absurd h hp, fun h => absurd h hp, fun _ => rfl⟩

/-- Settles O19: the values of each stop, read off its definition. -/
theorem stationStops : Obligations.StationStops := by
  intro s
  refine ⟨⟨_, rfl, ?_⟩, ⟨_, rfl, ?_⟩⟩
  · by_cases hl : s.pins.resetLow = true
    · rw [if_pos hl]
      exact ⟨fun _ => rfl, fun h => by simp [hl] at h, fun h => by simp [hl] at h, fun h => by simp [hl] at h⟩
    · rw [if_neg hl]
      by_cases hp : s.pins.powered = true
      · rw [if_pos hp]
        exact ⟨fun h => absurd h hl, fun _ => rfl, fun _ h => by simp [hp] at h, fun _ _ =>
          ⟨⟨rfl, rfl, rfl, rfl, rfl, rfl, rfl⟩, rfl, State.atFirstValues_pin _ _ _, State.keepsTrip_pin _ _ _⟩⟩
      · rw [if_neg hp]
        exact ⟨fun h => absurd h hl, fun _ => rfl, fun _ _ => rfl, fun _ h => absurd h hp⟩
  · by_cases hp : s.pins.powered = true
    · rw [if_pos hp]
      exact ⟨fun h => by simp [hp] at h, fun _ => ⟨rfl, ⟨rfl, rfl, rfl, rfl, rfl, rfl, rfl⟩, rfl,
        State.atFirstValues_cold _ _ _, ⟨rfl, rfl, rfl, rfl⟩⟩⟩
    · rw [if_neg hp]
      exact ⟨fun _ => rfl, fun h => absurd h hp⟩

/-! ## The end of the configuration read -/

/-- Targets that are those of their sources already are taken without a change (R123). -/
theorem State.takeTargets_of_taken {s : State} (h : s.TargetsTaken) : s.takeTargets = s := by
  obtain ⟨t1, t2, t3, t4, t5⟩ := h
  have hflow : s.output.takeFlow s.flowTargets = s.output := by
    unfold Output.takeFlow
    rw [← t2, ← t3, ← t4, ← t5]
  unfold State.takeTargets
  rw [hflow, ← t1, Output.takeStageTarget_same]

/-- In STARTING, with no stage on and the targets of STARTING taken, the ceiling moves no output. -/
theorem State.handCeiling_of_starting {s : State} (hs : s.control.state = .starting) (hz : s.output.stagesOn = 0)
    (ht : s.TargetsTaken) : s.handCeiling.output = s.output := by
  obtain ⟨-, he⟩ | ⟨-, hlt, -⟩ | ⟨-, -, he⟩ := s.handCeiling_cases
  · rw [he]
  · rw [hz] at hlt
    cases hlt
  · have hst : s.ceiled.control.state = .starting := hs
    obtain ⟨hflow, hstage⟩ := State.flowTargets_of_starting hst
    obtain ⟨hflow', hstage'⟩ := State.flowTargets_of_starting hs
    have htaken : s.ceiled.TargetsTaken := by
      rw [State.TargetsTaken, hflow', hstage'] at ht
      rw [State.TargetsTaken, hflow, hstage]
      exact ht
    rw [he, State.takeTargets_of_taken htaken]
    rfl

/-- What the end of the read makes of the interlock unit, once its ceiling is formed (R150, R154, R161, R163). -/
theorem Interlock.settled_eq {m : Nat} {i : Interlock} (hopen : i.openDwell = none)
    (hsupply : i.supply = .normal) (contactOpen : Bool) :
    let k := Interlock.takeUpContact contactOpen { i with discharge := m }
    { k with ceiling := k.effectiveCeiling } = { i with
      discharge := m, ceiling := if i.trip = .normal then m else 0
      openDwell := if contactOpen = true ∧ (i.trip = .normal ∨ i.trip = .cooldown) then some 100 else none
      trip := if i.trip = .tripped ∧ ¬contactOpen = true then .cooldown else i.trip
      cooldown := if i.trip = .tripped ∧ ¬contactOpen = true then some 60000 else i.cooldown } := by
  obtain ⟨trip⟩ := i
  dsimp only at hopen hsupply
  cases contactOpen with
  | true =>
    cases trip <;> simp [Interlock.takeUpContact, Interlock.contactOpens, Interlock.effectiveCeiling, hopen, hsupply, Config.openDwell]
  | false =>
    cases trip <;> simp [Interlock.takeUpContact, Interlock.contactCloses, Interlock.effectiveCeiling, hopen, hsupply, Config.cooldown]

/-- The end of the read of a sound station, written out (R101, R124, R140, R143, R150, R161, R163, R168). -/
theorem State.Sound.endRead_written {s : State} (hs : s.Sound) (hr : s.control.reading = true) (bytes : List Byte) :
    let l := settleConfiguration s.own bytes
    let t := s.endRead bytes
    t = { s with control := t.control, arbiter := t.arbiter, output := t.output, interlock := t.interlock }
    ∧ t.control = { s.control with
        cfg := l.cfg, cfgDefault := l.cfgDefault, cfgClamped := l.cfgClamped, phase := .listening,
        listen := some (2 * l.cfg.period), read := none }
    ∧ t.arbiter = { s.arbiter with
        dwell := if l.cfg.doorZone = true ∧ s.pins.doorOpen = true then some 1000 else none }
    ∧ t.output = { s.output with
        upDelay := some (3000 + 250 * s.own), fanTickIn := some 100, damperTickIn := some 1000 }
    ∧ t.interlock = { s.interlock with
        discharge := l.cfg.stages, ceiling := if s.interlock.trip = .normal then l.cfg.stages else 0
        openDwell := if s.pins.contactOpen = true ∧ (s.interlock.trip = .normal ∨ s.interlock.trip = .cooldown) then
          some 100 else none
        trip := if s.interlock.trip = .tripped ∧ ¬s.pins.contactOpen = true then .cooldown else s.interlock.trip
        cooldown := if s.interlock.trip = .tripped ∧ ¬s.pins.contactOpen = true then some 60000
          else s.interlock.cooldown } := by
  dsimp only
  obtain ⟨-, -, -, -, harb, hinitial, hopen, -, -, -, hsupply, -⟩ := hs.fit.waiting.2 hr
  have hdwell : s.arbiter.dwell = none := by rw [harb]; rfl
  have htaken := (hs.fit.configured_output hr (settleConfiguration s.own bytes)).taken
  have hout := State.handCeiling_of_starting (s := s.configured (settleConfiguration s.own bytes))
    (show s.control.state = .starting from Control.starting_of_reading hr) (by change s.output.stagesOn = 0; rw [hinitial]; rfl) htaken
  rw [State.endRead_eq, State.handCeiling_frame, hout]
  refine ⟨rfl, rfl, ?_, rfl, Interlock.settled_eq hopen hsupply s.pins.contactOpen⟩
  change s.arbiter.takeUpDoor _ _ = _
  rw [Arbiter.takeUpDoor_eq, hdwell]

/-- Settles O20: the end of the read of the station as the time left leaves it. -/
theorem configurationReadEnds : Obligations.ConfigurationReadEnds := by
  intro bytes s hs ha hr
  refine ⟨_, rfl, ?_⟩
  rw [if_pos (by rw [ha, hr]; rfl)]
  unfold State.readTimeSpent
  by_cases hshort : bytes.length < 64
  · simp only [if_pos hshort]
    exact (hs.elapse (s.control.read.getD 0)).endRead_written hr bytes
  · simp only [if_neg hshort]
    exact hs.endRead_written hr bytes

/-! ## Entries to the station states -/

/-- An entry to STANDBY stands the station by and hands the targets of STANDBY on, with both valves shut (R79, R96, R122,
R144). -/
theorem State.enterStandby_standsBy (s : State) :
    s.StandsBy s.enterStandby ∧ s.enterStandby.TakesTargets { s.output with evapPos := 0, coolantPos := 0 } :=
  ⟨⟨rfl, rfl, rfl, rfl, rfl, rfl⟩, s.stoodBy.reckon.takeTargets_takes⟩

/-- An entry to STANDBY leaves the rest of the station. -/
theorem State.enterStandby_frame (s : State) :
    s.enterStandby = { s with
      control := s.enterStandby.control, demand := s.enterStandby.demand, share := s.enterStandby.share
      arbiter := s.enterStandby.arbiter, output := s.enterStandby.output } := rfl

/-- The raises at an entry to RUNNING from an arbiter in AUTO (R104). -/
theorem Arbiter.raiseAtEntry_of_auto {a : Arbiter} (hp : a.pending = .none) (hact : a.active = .none)
    (hg : a.governing = .auto) (hst : a.stack = []) (panel : PanelMode) :
    a.raiseAtEntry panel = { a with
      active := {
        economy := panelMode panel = .economy, vent := panelMode panel = .vent, precond := false, boost := false,
        purge := false, door := a.cause }
      governing := if a.cause then .door else panelMode panel
      stack := (if a.cause = true ∧ panelMode panel ≠ .auto then [{ mode := panelMode panel, retired := false }] else [])
        ++ (if a.cause = true ∨ panelMode panel ≠ .auto then [{ mode := .auto, retired := false }] else []) } := by
  obtain ⟨pending, active, governing, stack, precond, boost, purge, own, dwell, cause, tail⟩ := a
  dsimp only at hp hact hg hst
  subst hp hact hg hst
  cases cause <;> cases panel <;> rfl

/-- Before the targets an entry to RUNNING hands on what a change of the governing mode brings (R98). -/
theorem State.setOff_arbitrate_share (s : State) :
    if (s.setOff.arbitrate (Arbiter.raiseAtEntry s.peers.panel.mode)).arbiter.governing = s.arbiter.governing then
      (s.setOff.arbitrate (Arbiter.raiseAtEntry s.peers.panel.mode)).share = s.share
    else s.Reckons (s.setOff.arbitrate (Arbiter.raiseAtEntry s.peers.panel.mode)) := by
  rw [State.arbitrate_arbiter']
  split_ifs with hg
  · rw [State.arbitrate_same (s := s.setOff) hg]
    rfl
  · rw [State.arbitrate_new (s := s.setOff) hg]
    rfl

/-- An entry to RUNNING from an arbiter in AUTO (R59, R104, R145). -/
theorem State.enterRunning_runs {s : State} (hp : s.arbiter.pending = .none) (hact : s.arbiter.active = .none)
    (hg : s.arbiter.governing = .auto) (hst : s.arbiter.stack = []) : s.Runs s.enterRunning := by
  have harb := Arbiter.raiseAtEntry_of_auto hp hact hg hst s.peers.panel.mode
  have hshare := s.setOff_arbitrate_share
  have htakes : s.enterRunning.TakesTargets s.output := by
    by_cases hsame : (Arbiter.raiseAtEntry s.peers.panel.mode s.arbiter).governing = s.arbiter.governing
    · rw [State.enterRunning_eq, State.arbitrate_same (s := s.setOff) hsame]
      exact State.takeTargets_takes _
    · rw [State.enterRunning_eq, State.arbitrate_new (s := s.setOff) hsame, State.recompute,
        State.takeTargets_of_taken (State.takeTargets_taken _)]
      exact State.takeTargets_takes _
  refine ⟨s.enterRunning_control', ?_, ?_, ?_, htakes⟩
  · rw [State.enterRunning_demand']
    cases s.control.state <;> rfl
  · rw [State.enterRunning_arbiter', harb]
  · rw [hg] at hshare
    exact hshare

/-- An entry to RUNNING leaves the rest of the station. -/
theorem State.enterRunning_frame (s : State) :
    s.enterRunning = { s with
      control := s.enterRunning.control, demand := s.enterRunning.demand, share := s.enterRunning.share
      arbiter := s.enterRunning.arbiter, output := s.enterRunning.output } := by
  rw [State.enterRunning_eq]
  unfold State.arbitrate
  dsimp only
  split_ifs <;> rfl

/-! ## The end of the listen period -/

/-- A link controller with no report to send and the first report's time fixed is watched without a change (R33, R34). -/
theorem State.watch_of_first {v : State} {l : Link} (hslot : l.reportSlot = none) (hsend : l.sendingReport = false)
    (hfirst : l.firstIn.isSome) (before : State) : (State.watch { v with link := l } before).link = l := by
  have hnotice : l.notice v.cfg v.control.state = l := by
    obtain ⟨hs, -⟩ | ⟨-, he⟩ | he := Link.notice_cases v.cfg v.control.state l
    · rw [hs] at hsend
      cases hsend
    · exact he
    · simp [Link.notice, hsend, hfirst]
  rw [State.watch_link]
  change Link.refresh _ (if _ then l.notice v.cfg v.control.state else l) = l
  rw [hnotice, ite_self, Link.refresh_of_none _ _ hslot]

/-- In STARTING a sound station sends no report. -/
theorem State.LinkReady.silent {s : State} (h : s.LinkReady) (hs : s.control.state = .starting) :
    s.link.reportSlot = none ∧ s.link.sendingReport = false := by
  have hslot := (h.starting hs).1
  refine ⟨hslot, Bool.eq_false_iff.mpr fun hsend => ?_⟩
  obtain ⟨r, hr⟩ := s.link.sendingReport_iff.mp hsend
  have := h.attempt _ hr rfl
  simp [Link.slotOf, hslot] at this

theorem Output.shut_of_shut {o : Output} (he : o.evapPos = 0) (hc : o.coolantPos = 0) :
    { o with evapPos := 0, coolantPos := 0 } = o := by
  obtain ⟨⟩ := o
  dsimp only at he hc
  rw [he, hc]

/-- Settles O21: the entry that the PANEL record calls for, with the first report's time fixed. -/
theorem listenPeriodEnds : Obligations.ListenPeriodEnds := by
  intro left s hs hl
  have hu := hs.elapse left
  have hst : (s.elapse left).control.state = .starting := hs.state_of_listen (by simp [hl])
  obtain ⟨hslot, hsend⟩ := hu.fit.link.silent hst
  obtain ⟨-, hrest, -⟩ := hu.fit.arbiter
  obtain ⟨hp, hact, hg, hstack, -⟩ := hrest (by rw [hst]; decide)
  have hshut := hu.fit.output.ready.shut (.inl hst)
  have hlink : ∀ v : State,
      (State.watch { v with link := { (s.elapse left).link with firstIn := some (s.own * s.cfg.period / 16) } } s).link
        = { (s.elapse left).link with firstIn := some (s.own * s.cfg.period / 16) } :=
    fun v => State.watch_of_first (l := { (s.elapse left).link with firstIn := some (s.own * s.cfg.period / 16) })
      hslot hsend rfl s
  refine ⟨((s.elapse left).endListening).watch s, by rw [exec, execListenTimerExpiry, hl]; rfl, ?_⟩
  unfold State.endListening
  dsimp only
  by_cases hoff : (s.elapse left).peers.panel.silence.isSome = true ∧ (s.elapse left).peers.panel.mode = .off
  · rw [if_pos (by simpa [fresh] using hoff), if_pos hoff, State.enterStandby_listened]
    obtain ⟨hstands, htakes⟩ := (s.elapse left).enterStandby_standsBy
    refine ⟨rfl, hlink _, hstands, ?_⟩
    rw [Output.shut_of_shut hshut.1 hshut.2] at htakes
    exact htakes
  · rw [if_neg (by simpa [fresh] using hoff), if_neg hoff, State.enterRunning_listened]
    refine ⟨?_, hlink _, State.enterRunning_runs hp hact hg hstack⟩
    rw [State.enterRunning_frame]
    rfl

/-! ## The restart -/

/-- A restart takes no stage off: S_n is the ceiling wherever the trip machine is NORMAL, and no stage is on elsewhere
(R161, R163). -/
theorem State.Fit.restarting_stages {s : State} (h : s.Fit)
    (hne : s.restarting.interlock.effectiveCeiling ≠ s.restarting.interlock.ceiling) :
    s.restarting.output.stagesOn ≤ s.restarting.interlock.effectiveCeiling := by
  have hceiling : s.interlock.ceiling = s.interlock.effectiveCeiling := h.interlock.ceiling
  have hunder : s.output.stagesOn ≤ s.interlock.ceiling := h.output.ready.steady.under
  have hdischarge : s.interlock.discharge ≤ s.cfg.stages := h.interlock.ready.discharge
  have hle := s.interlock.effectiveCeiling_le
  change (s.interlock.begins s.cfg.stages).effectiveCeiling ≠ s.interlock.ceiling at hne
  change s.output.stagesOn ≤ (s.interlock.begins s.cfg.stages).effectiveCeiling
  cases ht : s.interlock.trip with
  | normal =>
    have : (s.interlock.begins s.cfg.stages).effectiveCeiling = s.cfg.stages := by
      simp [Interlock.begins, Interlock.initial, Interlock.effectiveCeiling, ht]
    omega
  | _ =>
    have hold : s.interlock.effectiveCeiling = 0 := by simp [Interlock.effectiveCeiling, ht]
    have hnew : (s.interlock.begins s.cfg.stages).effectiveCeiling = 0 := by
      simp [Interlock.begins, Interlock.initial, Interlock.effectiveCeiling, ht]
    omega

/-- The restart of a station that is sound but for the mark (R18, R36, R58, R78, R95, R121, R149, R156, R158, R161, R165,
R176). -/
theorem State.Sound.restartsFrom {s : State} (hs : s.unpending.Sound) : s.RestartsFrom s.restarted := by
  have hout : s.restarted.output = (s.restarting.output.takeFlow
      { fan := 0, evap := 0, coolant := 0, damper := 0 }).takeStageTarget s.own 0 := by
    have htakes : s.restarting.takeTargets.output = (s.restarting.output.takeFlow
        { fan := 0, evap := 0, coolant := 0, damper := 0 }).takeStageTarget s.own 0 := rfl
    rw [State.restarted_eq]
    obtain ⟨-, he⟩ | ⟨hne, hlt, -⟩ | ⟨-, -, he⟩ := s.restarting.handCeiling_cases
    · rw [he, htakes]
    · exact absurd (State.Fit.restarting_stages hs.fit hne) (Nat.not_le.mpr hlt)
    · rw [he, State.takeTargets_of_taken (State.takeTargets_taken _)]
      rfl
  have hrest : s.restarted = { s.restarting with
      interlock := { s.restarting.interlock with ceiling := s.restarting.interlock.effectiveCeiling }
      output := s.restarted.output } := by
    rw [State.restarted_eq, State.handCeiling_frame]
    rfl
  have hceiling : s.restarting.interlock.effectiveCeiling =
      if s.interlock.trip = .normal then s.cfg.stages else 0 := by
    change (s.interlock.begins s.cfg.stages).effectiveCeiling = _
    cases ht : s.interlock.trip <;> simp [Interlock.begins, Interlock.initial, Interlock.effectiveCeiling, ht]
  refine ⟨?_, ?_, ?_, ?_, hout, ?_⟩
  all_goals rw [hrest]
  · rfl
  · rfl
  · exact s.link.restarted_eq
  · rfl
  · rw [hceiling]
    rfl

/-- Settles O22: the restart's values; the ceiling takes no stage off, since the full number of stages is in force wherever
the trip machine is NORMAL. -/
theorem restartTakesEffect : Obligations.RestartTakesEffect := by
  intro s hs hp hok
  have hdue : s.restartDue = true := s.restartDue_iff.mpr ⟨hp, hok⟩
  exact ⟨_, rfl, State.settleRestart_of_due hdue ▸ State.Sound.restartsFrom hs⟩

/-! ## Replies -/

/-- A reply placed in the REPLY slot, then the watch (R28, R30, R33). -/
theorem State.answeredFrom {v : State} {l : Link} {r : Reply} (hl : v.link = l.answer r) (before : State) :
    l.AnsweredFrom r (v.watch before).link := by
  obtain ⟨h1, h2⟩ := v.watch_upkept before
  rw [hl, Link.answer_eq] at h1 h2
  exact ⟨h1, h2⟩

/-! ## The end of TEST -/

/-- Settles O23: the entry to STANDBY that each end of TEST is. -/
theorem testEndsInStandby : Obligations.TestEndsInStandby := by
  refine fun left target s => ⟨fun ht => ?_, fun hj hst => ?_⟩
  · obtain ⟨hstands, htakes⟩ := (s.elapse left).enterStandby_standsBy
    exact ⟨((s.elapse left).enterStandby).watch s, by rw [exec, execTestTimerExpiry, ht]; rfl, rfl, hstands, htakes,
      State.watch_upkept _ s⟩
  · obtain ⟨hstands, htakes⟩ := s.hears.enterStandby_standsBy
    refine ⟨(s.hears.endTestRequest).watch s, congrArg _ (State.onRequest_of_judges _ _ hj), ?_⟩
    unfold State.endTestRequest
    rw [show s.hears.control.state = .test from hst]
    exact ⟨rfl, hstands, htakes, State.answeredFrom rfl s⟩

end Sys2Proof.Machine
end

section
/-! Samples and the protective machines: what each event writes (chapter 1, chapter 8). -/

namespace Sys2Proof.Machine

/-! ## The ceiling handed on -/

theorem Interlock.effectiveCeiling_eq (i : Interlock) : i.effectiveCeiling = i.ceilingOf := by
  unfold Interlock.effectiveCeiling Interlock.ceilingOf
  cases i.trip <;> cases i.supply <;> rfl

/-- Handing the ceiling on, from the station as it stood before the interlock unit moved (R131, R163). -/
theorem State.handCeiling_hands {u v : State} (ho : v.output = u.output) (hc : v.interlock.ceiling = u.interlock.ceiling) :
    u.HandsCeiling v.handCeiling := by
  have hceiling : v.handCeiling.interlock.ceiling = v.interlock.effectiveCeiling := v.handCeiling_ceiling
  refine ⟨?_, ?_⟩
  · rw [hceiling, State.handCeiling_frame, Interlock.effectiveCeiling_eq]
  · rw [hceiling, ← hc, ← ho]
    obtain ⟨h, he⟩ | ⟨hne, hlt, he⟩ | ⟨hne, hle, he⟩ := v.handCeiling_cases <;> rw [he]
    · rw [if_pos h]
    · rw [if_neg hne, if_pos hlt]
      refine ⟨State.shed_taken _ _, ?_⟩
      rw [State.shed_output]
      rfl
    · rw [if_neg hne, if_neg (Nat.not_lt.mpr hle)]
      exact v.ceiled.takeTargets_takes

/-- A change of the interlock unit handed on leaves the rest of the station. -/
theorem State.protect_frame (f : Interlock → Interlock) (s : State) :
    s.protect f = { s with
      interlock := { f s.interlock with ceiling := (f s.interlock).effectiveCeiling }, output := (s.protect f).output } := by
  rw [State.protect, State.handCeiling_frame]

/-- Under a ceiling of 0 a sound station has no stage on and wants none (R130, R163). -/
theorem State.Sound.none_on {t : State} (h : t.Sound) (hz : t.interlock.ceiling = 0) :
    t.output.stagesOn = 0 ∧ t.output.stageTarget = 0 := by
  obtain ⟨-, -, -, hunder, htarget, -⟩ := h.fit.output
  omega

/-- The station that a command leaves is sound. -/
theorem State.Sound.of_exec {s t : State} (h : s.Sound) {c : Instr} (ht : Machine.exec c s = .next t) : t.Sound := by
  obtain ⟨u, hu, hsound⟩ := h.exec c
  rw [hu] at ht
  cases ht
  exact hsound

/-- The watch after a change that leaves the link controller. -/
theorem State.upkept_of_link {u v : State} (h : v.link = u.link) (before : State) : u.link.UpkeptFrom (v.watch before).link :=
  h ▸ v.watch_upkept before

/-- The expiry of a running timer: the time left passes, then its effect and the watch (log 2). -/
theorem State.expires {t : Timer} {left : Nat} (ht : t = some left) (f : State → State) (s : State) :
    (.next (s.onExpiry t f) : Host.Outcome State Fault Refusal) = .next ((f (s.elapse left)).watch s) := by
  rw [ht, State.onExpiry_some]

/-- An event of the blocks that act from the end of the configuration read onward (R167). -/
theorem State.acts {s : State} (ha : s.acting = true) (f : State → State) :
    (.next (s.whenActing f) : Host.Outcome State Fault Refusal) = .next ((f s).watch s) := by
  rw [State.whenActing_of_acting f ha]

/-! ## Channels -/

/-- What a sample prompts leaves the channels and the supply value. -/
theorem State.afterSample_channel (ch other : Channel) (s : State) :
    (s.afterSample ch).sensing.channel other = s.sensing.channel other
    ∧ (s.afterSample ch).sensing.supply = s.sensing.supply := by
  cases ch with
  | ret => exact ⟨rfl, rfl⟩
  | discharge => simp [State.afterSample]
  | coil =>
    unfold State.afterSample State.judgeFrost
    dsimp only
    split_ifs <;> simp
  | fresh =>
    unfold State.afterSample State.selectAgain
    dsimp only
    rw [selectOutside_frame]
    cases other <;> exact ⟨rfl, rfl⟩

theorem State.afterSample_link (ch : Channel) (s : State) : (s.afterSample ch).link = s.link := by
  cases ch with
  | ret => rfl
  | discharge => simp [State.afterSample]
  | coil =>
    unfold State.afterSample State.judgeFrost
    dsimp only
    split_ifs <;> simp
  | fresh => rfl

theorem Sensing.channel_setChannel (ch : Channel) (c : ChannelData) (x : Sensing) : (x.setChannel ch c).channel ch = c := by
  cases ch <;> rfl

theorem Sensing.channel_setChannel_other {ch other : Channel} (h : other ≠ ch) (c : ChannelData) (x : Sensing) :
    (x.setChannel ch c).channel other = x.channel other := by
  revert h
  cases ch <;> cases other <;> simp [Sensing.channel, Sensing.setChannel]

/-- The class of a code (R2). -/
theorem badKind_eq (code : Nat) :
    badKind code = if code ≤ 15 ∨ 1008 ≤ code then some (if code ≤ 15 then .short else .open) else none := by
  unfold badKind
  by_cases hs : code ≤ 15
  · simp [hs]
  · by_cases ho : 1008 ≤ code
    · simp [hs, ho]
    · simp [hs, ho]

/-- A sample of a channel, with its runs as a sound channel holds them (R7, R8). -/
theorem sampleChannel_eq {c : ChannelData} (hc : c.sound = true) (trim : Int) (code : Nat) :
    let bad := code ≤ 15 ∨ 1008 ≤ code
    let kind := if code ≤ 15 then FaultKind.short else .open
    sampleChannel trim code c =
      if c.state = .good then
        if bad then
          if c.badRun = 4 then { c with state := .fault, badRun := 0, goodRun := 0, kind := kind }
          else { c with badRun := c.badRun + 1 }
        else { c with badRun := 0, filtered := some (filtered c.filtered (sampleTemperature trim code)) }
      else if bad then { c with goodRun := 0, kind := kind }
      else if c.goodRun = 19 then
        { state := .good, badRun := 0, goodRun := 0, kind := .none, filtered := some (sampleTemperature trim code) }
      else { c with goodRun := c.goodRun + 1 } := by
  obtain ⟨hbad, hgood, -⟩ := c.sound_iff.mp hc
  unfold sampleChannel sampleInGood sampleInFault
  rw [badKind_eq]
  cases hs : c.state with
  | good =>
    by_cases hb : code ≤ 15 ∨ 1008 ≤ code
    · simp only [if_pos hb, if_true]
      by_cases hrun : c.badRun = 4
      · rw [if_neg (by omega), if_pos hrun]
      · rw [if_pos (by omega), if_neg hrun]
    · simp only [if_neg hb, if_true]
  | fault =>
    by_cases hb : code ≤ 15 ∨ 1008 ≤ code
    · simp [if_pos hb]
    · simp only [if_neg hb, reduceCtorEq, if_false]
      by_cases hrun : c.goodRun = 19
      · rw [if_neg (by omega), if_pos hrun]
      · rw [if_pos (by omega), if_neg hrun]

/-- The channel as a sample leaves it, and the rest of the sensing unit (R11). -/
theorem State.takeSample_eq (ch : Channel) (code : Nat) (s : State) :
    (s.takeSample ch code).sensing = s.sensing.setChannel ch
      (if ch = .fresh ∧ s.cfg.freshFitted = false then s.sensing.channel ch
       else sampleChannel (trimOf s.cfg ch) code (s.sensing.channel ch)) := by
  have hself : ∀ x : Sensing, x = x.setChannel ch (x.channel ch) := by
    intro x
    cases ch <;> rfl
  unfold State.takeSample
  by_cases hp : ch = .fresh ∧ s.cfg.freshFitted = false
  · obtain ⟨rfl, hf⟩ := hp
    rw [if_neg (by simp [processed, hf]), if_pos ⟨rfl, hf⟩]
    exact hself _
  · have hproc : processed s.cfg ch = true := by
      cases ch with
      | fresh => simpa [processed] using hp
      | _ => rfl
    rw [if_pos hproc, if_neg hp]

/-- The event of a temperature sample: the sample taken, then what it prompts, then the watch. -/
theorem State.exec_sample {s : State} (ha : s.acting = true) (ch : Channel) (code : Fin 1024) :
    exec (.temperatureSample ch code) s = .next (((s.takeSample ch code.val).afterSample ch).watch s) :=
  State.acts ha _

/-- Settles O24: the channel's data by the class of the code and the channel's state. -/
theorem temperatureSampleTaken : Obligations.TemperatureSampleTaken := by
  intro ch code s hs ha
  have hchannel := State.afterSample_channel ch
  refine ⟨_, State.exec_sample ha ch code, ?_, ?_, ?_, State.upkept_of_link (by rw [State.afterSample_link, State.takeSample_frame]) s, ?_, ?_⟩
  · rw [State.watch_sensing, (hchannel ch _).1, State.takeSample_eq, Sensing.channel_setChannel,
      sampleChannel_eq (hs.fit.sensing.channel ch)]
    rfl
  · intro other _ hne
    rw [State.watch_sensing, (hchannel other _).1, State.takeSample_eq, Sensing.channel_setChannel_other hne]
  · rw [State.watch_sensing, (hchannel ch _).2, State.takeSample_eq]
    cases ch <;> rfl
  · rintro rfl
    rw [State.watch_sensing, (hchannel .ret _).1, State.takeSample_frame, State.takeSample_eq, Sensing.channel_setChannel]
    rfl
  · rintro rfl
    rw [State.watch_sensing, (hchannel .fresh _).1, State.takeSample_frame, State.takeSample_eq, Sensing.channel_setChannel]
    rfl

/-! ## The FROST machine -/

theorem Interlock.coilInClear_eq (usable : Option Int) (i : Interlock) :
    i.coilInClear usable =
      { i with coldDwell := if usable.any (· < 16) then some (i.coldDwell.getD 10000) else none } := by
  unfold Interlock.coilInClear
  rw [Timer.ensure_eq]
  cases usable with
  | none => rfl
  | some v => by_cases h : v < 16 <;> simp [h, Config.coldDwell]

theorem Interlock.coilInFrost_eq (usable : Option Int) (i : Interlock) :
    i.coilInFrost usable =
      { i with warmDwell := if usable.any (64 < ·) then some (i.warmDwell.getD 60000) else none } := by
  unfold Interlock.coilInFrost
  rw [Timer.ensure_eq]
  cases usable with
  | none => rfl
  | some v => by_cases h : 64 < v <;> simp [h, Config.warmDwell]

/-- What a channel tells of a condition on its temperature. -/
theorem ChannelData.usable_any (c : ChannelData) (p : Int → Bool) :
    c.usable.any p = true ↔ c.state = .good ∧ c.filtered.any p = true := by
  unfold ChannelData.usable
  cases c.state <;> simp

theorem ChannelData.faulty_iff (c : ChannelData) : c.faulty = true ↔ c.state = .fault := by
  unfold ChannelData.faulty
  cases c.state <;> simp

/-- The FROST machine at a COIL sample, its dwells as a sound interlock unit holds them (R155). -/
theorem Interlock.Ready.judgeCoil_eq {n : Nat} {i : Interlock} (h : i.Ready n) (c : ChannelData) :
    let cold := c.state = .good ∧ c.filtered.any (· < 16)
    let warm := c.state = .good ∧ c.filtered.any (64 < ·)
    i.judgeCoil c = { i with
      frost := if i.frost = .clear ∧ c.state = .fault then .frost else i.frost
      coldDwell := if i.frost = .clear ∧ cold then some (i.coldDwell.getD 10000) else none
      warmDwell := if i.frost = .frost ∧ warm then some (i.warmDwell.getD 60000) else none } := by
  obtain ⟨hcold, -, hwarm, -⟩ := h.frost
  unfold Interlock.judgeCoil
  simp only [Interlock.coilInClear_eq, Interlock.coilInFrost_eq, ChannelData.usable_any, ChannelData.faulty_iff]
  cases hf : i.frost with
  | clear =>
    have hnone : i.warmDwell = none := by
      cases hw : i.warmDwell with
      | none => rfl
      | some _ => simp [hw, hf] at hwarm
    by_cases hc : c.state = .fault
    · simp [hc, Interlock.frosts, hnone]
    · simp [hc, hnone]
  | frost =>
    have hnone : i.coldDwell = none := by
      cases hw : i.coldDwell with
      | none => rfl
      | some _ => simp [hw, hf] at hcold
    simp [hnone]

/-- A COIL sample handed on: a change of the FROST state alone recomputes the allowance (R155, R156). -/
theorem State.judgeFrost_cases (s : State) :
    ((s.interlock.judgeCoil s.sensing.coil).frost = s.interlock.frost
        ∧ s.judgeFrost = { s with interlock := s.interlock.judgeCoil s.sensing.coil })
    ∨ ((s.interlock.judgeCoil s.sensing.coil).frost ≠ s.interlock.frost
        ∧ s.judgeFrost = State.handFrost { s with interlock := s.interlock.judgeCoil s.sensing.coil }) := by
  unfold State.judgeFrost
  by_cases h : (s.interlock.judgeCoil s.sensing.coil).frost = s.interlock.frost
  · exact .inl ⟨h, if_pos h⟩
  · exact .inr ⟨h, if_neg h⟩

/-- An entry to FROST handed on (R156). -/
theorem State.handFrost_of_frost {s : State} (h : s.interlock.frost = .frost) :
    s.handFrost = State.recompute { s with output := { s.output with evapPos := 0 } } := by
  unfold State.handFrost
  rw [h]

/-- An exit to CLEAR handed on (R156). -/
theorem State.handFrost_of_clear {s : State} (h : s.interlock.frost = .clear) : s.handFrost = s.recompute := by
  unfold State.handFrost
  rw [h]

/-- A COIL sample, from the channel as it leaves it (R155, R156). -/
theorem State.Fit.judgeFrost_written {s : State} (h : s.Fit) (x : Sensing) :
    let t := State.judgeFrost { s with sensing := x }
    let enters := s.interlock.frost = .clear ∧ x.coil.state = .fault
    t = { s with sensing := x, share := t.share, output := t.output, interlock := s.interlock.judgeCoil x.coil }
    ∧ (if enters then s.Recomputes { s.output with evapPos := 0 } t else t.share = s.share ∧ t.output = s.output) := by
  intro t enters
  have hfrost : (s.interlock.judgeCoil x.coil).frost = if enters then .frost else s.interlock.frost := by
    rw [h.interlock.ready.judgeCoil_eq]
  obtain ⟨hsame, he⟩ | ⟨hne, he⟩ := State.judgeFrost_cases { s with sensing := x }
  · have hnot : ¬enters := fun hen => by
      have := hfrost.symm.trans hsame
      rw [if_pos hen, hen.1] at this
      cases this
    rw [if_neg hnot, show t = _ from he]
    exact ⟨rfl, rfl, rfl⟩
  · have hen : enters := by
      by_contra hnot
      rw [if_neg hnot] at hfrost
      exact hne hfrost
    rw [if_pos hen] at hfrost ⊢
    rw [show t = _ from he, State.handFrost_of_frost hfrost]
    exact ⟨rfl, State.recompute_recomputes _⟩

/-- In FROST no cooling is allowed (R88). -/
theorem allowance_of_frost {x : ShareInputs} (h : x.frost = .frost) : (allowance x).aC = 0 := by
  obtain ⟨-, -, -, -, -, -, -, -, -, -, hnone, -⟩ := allowance_bounds x
  exact hnone h

/-- Settles O25: the equation of the machine under its dwells' ranges, then the allowance formed afresh. -/
theorem frostMachineMoves : Obligations.FrostMachineMoves := by
  refine fun code left s => ⟨fun hs ha => ?_, fun ht => ?_, fun ht => ?_⟩
  · refine ⟨_, State.exec_sample ha .coil code, ?_⟩
    have hwritten := hs.fit.judgeFrost_written (s.takeSample .coil code.val).sensing
    rw [State.takeSample_frame]
    generalize hx : (s.takeSample .coil code.val).sensing = x at hwritten
    have hset : s.sensing.setChannel .coil x.coil = x := by
      rw [← hx, State.takeSample_eq]
      rfl
    rw [show State.afterSample .coil = State.judgeFrost from rfl]
    generalize State.judgeFrost { s with sensing := x } = v at hwritten
    obtain ⟨hframe, hgives⟩ := hwritten
    have hcoil : (v.watch s).sensing.coil = x.coil := by
      rw [hframe]
      rfl
    have hlink : v.link = s.link := by rw [hframe]
    dsimp only
    rw [hcoil, hset]
    refine ⟨?_, ?_, hgives, State.upkept_of_link hlink s⟩
    · rw [hframe]
      rfl
    · rw [← hs.fit.interlock.ready.judgeCoil_eq, State.watch_interlock, hframe]
  · refine ⟨_, State.expires ht _ s, ?_⟩
    rw [State.handFrost_of_frost rfl]
    exact ⟨rfl, State.recompute_recomputes _, allowance_of_frost rfl, State.watch_upkept _ s⟩
  · refine ⟨_, State.expires ht _ s, ?_⟩
    rw [State.handFrost_of_clear rfl]
    exact ⟨rfl, State.recompute_recomputes _, State.watch_upkept _ s⟩

/-! ## The DISCHARGE ceiling -/

/-- The DISCHARGE ceiling at a sample, its timers as a sound interlock unit holds them (R159, R160). -/
theorem Interlock.Ready.judgeDischarge_eq {n : Nat} {i : Interlock} (h : i.Ready n) (c : ChannelData) :
    let hot := c.state = .good ∧ c.filtered.any (880 < ·)
    let cool := c.state = .good ∧ c.filtered.any (· < 800)
    i.judgeDischarge n c = { i with
      discharge := if c.state = .fault then min 1 n
        else if hot ∧ i.drop = none then i.discharge - 1 else i.discharge
      drop := if hot then some (i.drop.getD 10000) else none
      rise := if cool ∧ i.discharge < n then some (i.rise.getD 30000) else none } := by
  have hbelow : ¬i.discharge < n → i.rise = none := fun hn =>
    Option.not_isSome_iff_eq_none.mp fun hr => hn (h.ceilingPart.rise hr)
  unfold Interlock.judgeDischarge ChannelData.faulty ChannelData.usable
  cases hc : c.state with
  | fault => simp [Interlock.dischargeFault]
  | good =>
    cases hv : c.filtered with
    | none => simp [Interlock.dischargeBetween]
    | some v =>
      by_cases hhot : 880 < v
      · cases hd : i.drop <;> simp [hhot, Interlock.dischargeHot, hd, Config.dropTime, show ¬v < 800 by omega]
      · by_cases hcool : v < 800
        · by_cases hn : i.discharge < n
          · simp [hhot, hcool, Interlock.dischargeCool, hn, Timer.ensure_eq, Config.riseTime]
          · simp [hhot, hcool, Interlock.dischargeCool, hn, hbelow hn]
        · simp [hhot, hcool, Interlock.dischargeBetween]

/-- A change of the interlock unit handed on, its ceiling judged from the station as it stood (R131, R163). -/
theorem State.protect_hands {f : Interlock → Interlock} {s : State} (h : (f s.interlock).ceiling = s.interlock.ceiling) :
    s.HandsCeiling (s.protect f) := State.handCeiling_hands rfl h

/-- Settles O26: the equation of the machine under its timers' ranges, then the ceiling handed on. -/
theorem dischargeLimitMoves : Obligations.DischargeLimitMoves := by
  refine fun code left s => ⟨fun hs ha => ?_, fun ht hs => ?_, fun ht hs => ?_⟩
  · refine ⟨_, State.exec_sample ha .discharge code, ?_⟩
    rw [State.takeSample_frame]
    have hset : s.sensing.setChannel .discharge (s.takeSample .discharge code.val).sensing.discharge
        = (s.takeSample .discharge code.val).sensing := by
      rw [State.takeSample_eq]
      rfl
    generalize (s.takeSample .discharge code.val).sensing = x at hset
    have hjudged := hs.fit.interlock.ready.judgeDischarge_eq x.discharge
    have hframe := State.protect_frame (Interlock.judgeDischarge s.cfg.stages x.discharge) { s with sensing := x }
    have hhands : s.HandsCeiling (State.protect (Interlock.judgeDischarge s.cfg.stages x.discharge) { s with sensing := x }) :=
      State.handCeiling_hands rfl (by rw [hjudged])
    rw [show State.afterSample .discharge { s with sensing := x }
      = State.protect (Interlock.judgeDischarge s.cfg.stages x.discharge) { s with sensing := x } from rfl]
    generalize State.protect (Interlock.judgeDischarge s.cfg.stages x.discharge) { s with sensing := x } = v
      at hframe hhands
    have hdischarge : (v.watch s).sensing.discharge = x.discharge := by
      rw [hframe]
      rfl
    have hlink : v.link = s.link := by rw [hframe]
    dsimp only at hjudged ⊢
    rw [hdischarge, hset]
    refine ⟨?_, hhands, State.upkept_of_link hlink s⟩
    rw [hframe, hjudged]
    rfl
  · refine ⟨_, State.expires ht _ s, ?_, State.protect_hands rfl, State.upkept_of_link (by simp) s⟩
    rw [State.protect_frame]
    rfl
  · have hbelow := (hs.elapse left).fit.interlock.ready.ceilingPart.rise (by simp [State.elapse, Interlock.after, ht, Timer.after])
    refine ⟨_, State.expires ht _ s, ?_, State.protect_hands rfl, State.upkept_of_link (by simp) s⟩
    have hrise : (if (s.elapse left).interlock.discharge + 1 < s.cfg.stages then some Config.riseTime else none)
        = if (s.elapse left).interlock.discharge + 1 = s.cfg.stages then none else some 30000 := by
      by_cases h : (s.elapse left).interlock.discharge + 1 = s.cfg.stages
      · rw [if_pos h, if_neg (by omega)]
      · rw [if_neg h, if_pos (by rw [State.elapse_cfg] at hbelow; omega)]
        rfl
    rw [← hrise, State.protect_frame]
    rfl

/-! ## The SUPPLY machine -/

/-- The SUPPLY machine at a sample, its dwells as a sound interlock unit holds them (R158). -/
theorem Interlock.Ready.judgeSupply_eq {n : Nat} {i : Interlock} (h : i.Ready n) (cfg : Settings) (v : Nat) :
    i.judgeSupply cfg v = { i with
      lowDwell := if i.supply = .normal ∧ v < cfg.supplyEntry then some (i.lowDwell.getD 2000) else none
      recovery := if i.supply = .low ∧ cfg.supplyExit < v then some (i.recovery.getD 10000) else none } := by
  obtain ⟨hlow, -, hrecovery, -⟩ := h.supply
  unfold Interlock.judgeSupply
  cases hs : i.supply with
  | normal =>
    have hnone : i.recovery = none := by
      cases hr : i.recovery with
      | none => rfl
      | some _ => simp [hr, hs] at hrecovery
    by_cases hv : v < cfg.supplyEntry
    · simp [hv, hnone, Timer.ensure_eq, Config.lowDwell]
    · simp [hv, hnone]
  | low =>
    have hnone : i.lowDwell = none := by
      cases hr : i.lowDwell with
      | none => rfl
      | some _ => simp [hr, hs] at hlow
    by_cases hv : cfg.supplyExit < v
    · simp [hv, hnone, Timer.ensure_eq, Config.recoveryDwell]
    · simp [hv, hnone]

/-- Settles O27: the equation of the machine under its dwells' ranges, then the ceiling handed on, which is 0 in
SUPPLY_LOW. -/
theorem supplyMachineMoves : Obligations.SupplyMachineMoves := by
  refine fun code left s => ⟨fun hs ha => ?_, fun ht hs => ?_, fun ht hs => ?_⟩
  · refine ⟨_, State.acts ha _, ?_, State.upkept_of_link rfl s⟩
    rw [← hs.fit.interlock.ready.judgeSupply_eq]
    rfl
  · have hexec : exec .lowDwellExpiry s
        = .next ((State.protect (fun i => { i with supply := .low, lowDwell := none }) (s.elapse left)).watch s) :=
      State.expires ht _ s
    have hnone := (hs.of_exec hexec).none_on
      ((State.handCeiling_ceiling _).trans (by rw [Interlock.effectiveCeiling_eq, Interlock.ceilingOf]; simp))
    refine ⟨_, hexec, ?_, hnone.1, hnone.2, State.protect_hands rfl, State.upkept_of_link (by simp) s⟩
    rw [State.protect_frame, Interlock.effectiveCeiling_eq, Interlock.ceilingOf, if_neg (by simp)]
    rfl
  · refine ⟨_, State.expires ht _ s, ?_, State.protect_hands rfl, State.upkept_of_link (by simp) s⟩
    rw [State.protect_frame, Interlock.effectiveCeiling_eq, Interlock.ceilingOf]
    simp only [and_true]
    rfl

end Sys2Proof.Machine
end

section
/-! The line's events, the ends of an attempt, the reports that fall due and their content (chapter 2). -/

namespace Sys2Proof.Machine

/-! ## Changes of the link controller alone -/

theorem State.Sound.current {s : State} (h : s.Sound) : s.ReportCurrent := (s.sound_iff.mp h).2

/-- A waiting report that is current stands. -/
theorem Link.refresh_of_current {r : ReportBody} {l : Link}
    (h : ∀ q ∈ l.reportSlot, l.sendingReport = false → q = r) : l.refresh r = l := by
  cases hs : l.sendingReport with
  | true => exact l.refresh_of_sending r hs
  | false =>
    cases hr : l.reportSlot with
    | none => exact l.refresh_of_none r hr
    | some q =>
      rw [l.refresh_of_waiting r hs (by rw [hr]; rfl), ← h q hr hs]
      obtain ⟨⟩ := l
      dsimp only at hr
      rw [hr]

/-- The watch after an event that changes nothing other stations watch: the waiting report's upkeep alone (R30). -/
theorem State.watch_of_noticed {u s : State} (h : u.noticed = s.noticed) :
    u.watch s = { u with link := u.link.refresh u.report } := by
  unfold State.watch
  rw [if_neg (by simp [h])]

/-- The watch after a change of the link controller alone. -/
theorem State.watch_withLink (s : State) (l : Link) :
    State.watch { s with link := l } s = { s with link := l.refresh s.report } :=
  State.watch_of_noticed rfl

/-- A change of the link controller alone while the station is awake. -/
theorem State.onLine_eq {s : State} (ha : s.awake = true) (f : Link → Link) :
    s.onLine f = { s with link := (f s.link).refresh s.report } := by
  rw [State.onLine, if_pos ha, State.watch_withLink]

theorem Link.begin_of_ready {mayReport : Bool} {l : Link} {c : Content} (h : l.ready mayReport = some c) :
    l.begin mayReport = { l with attempt := some { content := c, live := true }, line := .busy, incoming := some [] } := by
  rw [Link.begin, h]

theorem Link.begin_of_not_ready {mayReport : Bool} {l : Link} (h : l.ready mayReport = none) : l.begin mayReport = l := by
  rw [Link.begin, h]

theorem Link.ready_of_idle (mayReport : Bool) {l : Link} (hl : l.line = .idle) (ha : l.attempt = none) :
    l.ready mayReport = l.nextContent mayReport := by
  unfold Link.ready
  rw [hl, ha]

theorem Link.ready_of_busy {mayReport : Bool} {l : Link} (h : l.line ≠ .idle ∨ l.attempt.isSome) :
    l.ready mayReport = none := by
  unfold Link.ready
  split
  · next hl ha => simp [hl, ha] at h
  · rfl

/-- Settles O28: the content that is ready, in each state of the slots. -/
theorem attemptsBeginOnIdleLine : Obligations.AttemptsBeginOnIdleLine := by
  intro s hs ha
  have hcurrent := hs.current
  have hbegin : exec .attemptBegin s = .next { s with link := (s.link.begin s.reports).refresh s.report } :=
    congrArg _ (State.onLine_eq ha _)
  refine ⟨?_, _, hbegin, rfl, fun r hr hl hnone => ?_, fun r hr hl hnone hno => ?_, fun hnot => ?_⟩
  · have hidle : (s.link.idled).refresh s.report = s.link.idled := by
      rw [Link.idled_eq]
      exact Link.refresh_of_current hcurrent
    exact congrArg _ ((State.onLine_eq ha _).trans (by rw [hidle, Link.idled_eq]))
  · have hreports : s.reports = true := s.reports_iff.mpr (hs.fit.link.not_starting (by rw [hr]; rfl))
    have hready : s.link.ready s.reports = some (.report r) := by
      rw [Link.ready_of_idle _ hl hnone, Link.nextContent, if_pos hreports, hr]
    dsimp only
    rw [Link.begin_of_ready hready]
    exact Link.refresh_of_sending _ _ rfl
  · have hready : s.link.ready s.reports = some (.reply r) := by
      rw [Link.ready_of_idle _ hl hnone, Link.nextContent, hno, hr, ite_self]
    dsimp only
    rw [Link.begin_of_ready hready]
    exact Link.refresh_of_none _ _ hno
  · have hready : s.link.ready s.reports = none := by
      obtain h | h | ⟨hr, hp⟩ := hnot
      · exact Link.ready_of_busy (.inl h)
      · exact Link.ready_of_busy (.inr h)
      · unfold Link.ready
        split
        · rw [Link.nextContent, hr, hp, ite_self]
        · rfl
    rw [Link.begin_of_not_ready hready, Link.refresh_of_current hcurrent]

/-! ## The ends of an attempt -/

/-- Where the OK reply to RESTART may have been let go of, the restart settles (R176). -/
theorem State.settlesRestart {u : State} (h : u.unpending.Sound) : u.SettlesRestart u.settleRestart := by
  unfold State.SettlesRestart
  by_cases hdue : u.control.restartPending = true ∧ u.link.holdsRestartOk = false
  · rw [if_pos hdue, State.settleRestart_of_due (u.restartDue_iff.mpr hdue)]
    exact State.Sound.restartsFrom h
  · rw [if_neg hdue, State.settleRestart_of_not_due (Bool.eq_false_iff.mpr fun hd => hdue (u.restartDue_iff.mp hd))]

/-- A change of the link controller alone leaves a sound station, a pending restart's mark apart. -/
theorem State.Sound.onLine_unpending {s : State} (hs : s.Sound) (ha : s.awake = true) {f : Link → Link}
    (hl : State.LinkReady { s with link := f s.link }) : (s.onLine f).unpending.Sound := by
  have hfit : State.Fit { s.unpending with link := f s.link } :=
    hs.unpending.fit.withLink ha rfl (State.unpending_linkReady hl)
  rw [State.onLine, if_pos ha]
  exact hfit.watch s.unpending

/-- The end of an attempt while the station is awake (R176). -/
theorem State.endsAttempt {s : State} (ha : s.awake = true) (f : Link → Link) :
    (.next (s.endAttempt f) : Host.Outcome State Fault Refusal) = .next (s.onLine f).settleRestart := by
  rw [State.endAttempt, if_pos ha]

/-- The link controller of a sound station as a waiting report's upkeep leaves it where no report was being sent. -/
theorem State.Sound.refresh_waiting {s : State} (hs : s.Sound) (hsend : s.link.sendingReport = false) {l : Link}
    (hl : l.reportSlot = s.link.reportSlot) : l.refresh s.report = l :=
  Link.refresh_of_current fun q hq _ => hs.current q (hl ▸ hq) hsend

/-- Settles O29: the link controller's cases, the waiting report's upkeep, then the restart settled. -/
theorem attemptsEnd : Obligations.AttemptsEnd := by
  intro a s hs ha hattempt
  have hready := hs.fit.link
  have hwaits : a.live = false ∨ a.content.isReport = false → s.link.sendingReport = false := by
    rw [Link.sendingReport_of_attempt hattempt, Bool.and_eq_false_iff]
    exact id
  constructor
  · have hlink := State.onLine_eq ha (Link.complete s.cfg)
    have hcases := Link.complete_cases hattempt s.cfg
    refine ⟨s.onLine (Link.complete s.cfg), _, State.endsAttempt ha _,
      State.settlesRestart (hs.onLine_unpending ha hready.complete), by rw [hlink], fun hl hr => ?_, fun hl hr => ?_,
      fun hl => ?_⟩
    · rw [hlink, ((hcases.resolve_left (by simp [hl])).resolve_left (by simp [hr])).2.2]
      rfl
    · rw [hlink, ((hcases.resolve_left (by simp [hl])).resolve_right (by simp [hr])).2.2]
      exact hs.refresh_waiting (hwaits (.inr hr)) rfl
    · rw [hlink, (hcases.resolve_right (by simp [hl])).2]
      exact hs.refresh_waiting (hwaits (.inl hl)) rfl
  · have hlink := State.onLine_eq ha Link.fail
    have hcases := Link.fail_cases hattempt
    refine ⟨s.onLine Link.fail, _, State.endsAttempt ha _, State.endsAttempt ha _,
      State.settlesRestart (hs.onLine_unpending ha hready.fail), by rw [hlink], fun hl hr => ?_, fun hl hr => ?_,
      fun hl => ?_⟩
    · have hcount := hready.reportCount
      rw [hlink, ((hcases.resolve_left (by simp [hl])).resolve_left (by simp [hr])).2.2]
      by_cases h15 : s.link.reportCount = 15
      · rw [if_neg (by omega), if_pos h15, if_pos h15, if_pos h15]
        rfl
      · rw [if_pos (by omega), if_neg h15, if_neg h15, if_neg h15]
        exact Link.refresh_of_waiting _ _ rfl (hready.report_held hattempt hl hr)
    · have hcount := hready.replyCount
      rw [hlink, ((hcases.resolve_left (by simp [hl])).resolve_right (by simp [hr])).2.2]
      by_cases h15 : s.link.replyCount = 15
      · rw [if_neg (by omega), if_pos h15, if_pos h15]
        exact hs.refresh_waiting (hwaits (.inr hr)) rfl
      · rw [if_pos (by omega), if_neg h15, if_neg h15]
        exact hs.refresh_waiting (hwaits (.inr hr)) rfl
    · rw [hlink, (hcases.resolve_right (by simp [hl])).2]
      exact hs.refresh_waiting (hwaits (.inl hl)) rfl

/-! ## Reports that fall due -/

theorem reportPeriod_eq (cfg : Settings) (state : StationState) :
    reportPeriod cfg state = if state = .standby then 4 * cfg.period else cfg.period := by
  cases state <;> rfl

/-- The time to the next periodic report (R31, R35). -/
theorem Link.periodicIn_eq (cfg : Settings) (state : StationState) (l : Link) :
    l.periodicIn cfg state =
      (if l.sinceDiscard.isSome then l.sinceDiscard else l.sinceReport).map
        ((if state = .standby then 4 * cfg.period else cfg.period) - ·) := by
  rw [← reportPeriod_eq]
  unfold Link.periodicIn
  cases l.sinceDiscard <;> cases l.sinceReport <;> rfl

/-- A report that falls due fills the empty slot with the content of that moment (R28, R32). -/
theorem State.filled_of_expiry {s : State} (hr : s.link.reportSlot = none) (hst : s.control.state ≠ .starting) {t : Timer}
    {left : Nat} (ht : t = some left) :
    let u := s.elapse left
    (.next (s.onExpiry t State.fillReport) : Host.Outcome State Fault Refusal) = .next { u with link := { u.link with
      reportSlot := some u.report, reportCount := 0, firstIn := none, earlyIn := none } } := by
  intro u
  have hfill : u.fillReport = { u with link := { u.link with
      reportSlot := some u.report, reportCount := 0, firstIn := none, earlyIn := none } } := by
    rw [State.fillReport, if_pos (u.reports_iff.mpr hst), Link.fill, show u.link.reportSlot = none from hr]
  have hnoticed : u.fillReport.noticed = s.noticed := hfill ▸ s.elapse_noticed left
  rw [State.expires ht, State.watch_of_noticed hnoticed, Link.refresh_of_current, hfill]
  rw [hfill]
  rintro q ⟨⟩ -
  rfl

/-- Settles O30: each of the three expiries fills the slot. -/
theorem reportsFallDue : Obligations.ReportsFallDue := by
  refine fun left s _ hr hst => ⟨fun hsome hleft => ?_, fun ht => ?_, fun ht => ?_⟩
  · refine State.filled_of_expiry hr hst ?_
    obtain ⟨since, hsince⟩ := Option.isSome_iff_exists.mp hsome
    rw [Link.periodicIn_eq, hleft, hsince]
    rfl
  · exact State.filled_of_expiry hr hst ht
  · exact State.filled_of_expiry hr hst ht

/-! ## The content of a REPORT -/

/-- A temperature of the working range is carried whole in 16 bits (R32). -/
theorem toInt_ofInt_of_range {v : Int} (h : inWorkingRange v) : (BitVec.ofInt 16 v).toInt = v := by
  obtain ⟨hl, hh⟩ := h
  rw [BitVec.toInt_ofInt, Int.bmod_def]
  omega

theorem Option.map_toInt_ofInt {x : Option Int} (h : ∀ v ∈ x, inWorkingRange v) :
    (x.map (BitVec.ofInt 16)).map BitVec.toInt = x := by
  cases x with
  | none => rfl
  | some v => simp only [Option.map_some, toInt_ofInt_of_range (h v rfl)]

/-- A multiple of 100 small enough is carried in hundreds by a byte (R32). -/
theorem hundreds_toNat {n : Nat} (h : n % 100 = 0) (hle : n < 25600) : 100 * (BitVec.ofNat 8 (n / 100)).toNat = n := by
  rw [BitVec.toNat_ofNat]
  omega

theorem usable_eq (c : ChannelData) : c.usable = if c.state = .good then c.filtered else none := by
  unfold ChannelData.usable
  cases c.state <;> rfl

theorem faulty_eq (c : ChannelData) : c.faulty = decide (c.state = .fault) := by
  unfold ChannelData.faulty
  cases c.state <;> rfl

theorem fresh_eq (t : Timer) : fresh t = decide (t ≠ none) := by
  cases t <;> rfl

/-- A power of a few stages, in whole hundreds (R32, 10.2). -/
theorem stages_power {n power : Nat} (hn : n ≤ 4) (hp : power ≤ 2000) (hm : power % 100 = 0) :
    n * power % 100 = 0 ∧ n * power < 25600 := by
  have hle : n * power ≤ 4 * 2000 := Nat.mul_le_mul hn hp
  exact ⟨by rw [Nat.mul_mod, hm, Nat.mul_zero, Nat.zero_mod], by omega⟩

theorem SeqState.commits_eq (q : SeqState) : bit q.commits = if q = .waiting ∨ q = .steppingUp then 1 else 0 := by
  cases q <;> rfl

/-- Settles O31: each field, those of bytes and words within their ranges. -/
theorem reportContent : Obligations.ReportContent := by
  intro s hs hst
  have hcfg := hs.fit.control.inRange
  obtain ⟨-, -, -, hstages, hpower, hmultiple, hrating, -⟩ := hcfg
  obtain ⟨-, -, -, hrecord⟩ := (State.demandSound_iff s).mp hs.fit.demand
  have hwanted : s.demand.record.stagesWanted ≤ 4 := le_trans hrecord.stagesWanted (by omega)
  have hcool : s.demand.record.cool ≤ 1000 := by
    have := hrecord.cool
    have := hrecord.u
    omega
  have hdC : s.demand.record.dC ≤ 250 := by
    rw [hrecord.dC]
    exact le_trans (coolingDemand_le _ _ hcool) hrating
  have hevap := hs.fit.output.ready.positions.2.1
  have hon := ((hs.fit.primed (hs.fit.acting_of_not_reading (by simp [Control.reading, hst]))).stagesOn_le)
  have hcommits := SeqState.commits_eq s.output.seq
  have husable : ∀ ch, ((s.sensing.channel ch).usable.map (BitVec.ofInt 16)).map BitVec.toInt
      = if (s.sensing.channel ch).state = .good then (s.sensing.channel ch).filtered else none := fun ch => by
    rw [Option.map_toInt_ofInt fun v hv => ChannelData.usable_inRange (hs.fit.sensing.channel ch) hv, usable_eq]
  refine ⟨?_, ?_, ?_, rfl, ?_, ?_, ?_, ?_, ?_, ?_, husable .ret, husable .fresh, ?_⟩
  · cases h : s.control.state <;> simp_all [State.report, reportedState]
  · cases h : s.control.state <;> simp_all [State.report, reportedState]
  · cases h : s.control.state <;> simp_all [State.report, reportedState]
  · exact beq_iff_eq
  · simp [State.report, State.doorFlag, State.isRunning]
  · have h := stages_power hwanted hpower hmultiple
    rw [← hrecord.dEl] at h
    exact hundreds_toNat h.1 h.2
  · exact Nat.mod_eq_of_lt (by omega)
  · have h := stages_power (n := s.output.stagesOn + bit s.output.seq.commits) (by rw [hcommits]; split <;> omega)
      hpower hmultiple
    rw [← hcommits]
    exact hundreds_toNat h.1 h.2
  · refine Nat.mod_eq_of_lt (?_ : s.output.evapPos * s.cfg.coolRating / 1000 < 256)
    have := coolingDemand_le s.output.evapPos s.cfg.coolRating hevap
    omega
  · have hduplicate : s.peers.duplicate.isSome = !decide (s.peers.duplicate = none) := by
      cases s.peers.duplicate <;> rfl
    simp [State.report, State.flags, faulty_eq, fresh_eq, beq_eq_decide, hduplicate]

/-! ## Messages that are not taken -/

/-- The arrival of a message other than a request has the form of a message (R27). -/
theorem exec_of_arrival {c : Instr} (h : isArrival c = true) :
    ∃ f : State → State, ∀ s, exec c s = .next (s.onMessage f) := by
  cases c with
  | overloadArrival => exact ⟨_, fun _ => rfl⟩
  | postArrival _ _ _ _ => exact ⟨_, fun _ => rfl⟩
  | budgetArrival _ => exact ⟨_, fun _ => rfl⟩
  | plantArrival _ _ _ => exact ⟨_, fun _ => rfl⟩
  | panelArrival _ _ => exact ⟨_, fun _ => rfl⟩
  | reportArrival _ _ => exact ⟨_, fun _ => rfl⟩
  | _ => cases h

/-- A service request has the form of a request (R27, R172). -/
theorem exec_of_request {c : Instr} {kind : RequestKind} {target : Fin 32} (h : requestOfCommand c = some (kind, target)) :
    ∃ f : State → State, ∀ s, exec c s = .next (s.onRequest kind target f) := by
  cases c with
  | readStatus _ | readPeer _ _ | readConfig _ | testOutput _ _ _ | endTest _ | restart _ | clearLock _ =>
    cases h
    exact ⟨_, fun _ => rfl⟩
  | _ => cases h

/-- Settles O33: the forms of a message and of a request, in each of which it is passed over. -/
theorem messagesPassedOver : Obligations.MessagesPassedOver := by
  refine fun c s => ⟨congrArg (fun l => { s with link := l }) s.link.heard_eq, fun ha hl h => ?_, fun h hc => ?_⟩
  · have hattentive : s.attentive = true := by simp [State.attentive, ha, hl]
    obtain ⟨bytes, rfl⟩ | h | ⟨h, hr⟩ := h
    · exact congrArg Host.Outcome.next (if_pos hattentive)
    · cases hq : requestOfCommand c with
      | none => rw [hq] at h; cases h
      | some q =>
        obtain ⟨f, hf⟩ := exec_of_request hq
        rw [hq] at h
        rw [hf, State.onRequest_of_other q.1 f ha hl (of_decide_eq_true h)]
    · obtain ⟨f, hf⟩ := exec_of_arrival h
      rw [hf, State.onMessage_of_reading f ha hl hr]
  · obtain ⟨bytes, rfl⟩ | hc | hc := hc
    · have hdeaf : ¬s.attentive = true := by
        obtain h | h := h <;> simp [State.attentive, h]
      exact congrArg Host.Outcome.next (if_neg hdeaf)
    · obtain ⟨⟨kind, target⟩, hq⟩ := Option.isSome_iff_exists.mp hc
      obtain ⟨f, hf⟩ := exec_of_request hq
      rw [hf, State.onRequest_of_deaf kind f target h]
    · obtain ⟨f, hf⟩ := exec_of_arrival hc
      rw [hf, State.onMessage_of_deaf f h]

end Sys2Proof.Machine
end

section
/-! Arrivals of source records and reports, ageing and silence (chapter 3): what each event writes and hands on. -/

namespace Sys2Proof.Machine

/-- The arrival of a message that is taken: the message ends, then its effect and the watch (R25, R27). -/
theorem State.arrives {s : State} (hh : s.Hears) (f : State → State) :
    (.next (s.onMessage f) : Host.Outcome State Fault Refusal) = .next ((f s.hears).watch s) := by
  rw [State.onMessage_of_hears f hh]

/-! ## The arbiter's change handed on -/

theorem State.arbitrate_frame (f : Arbiter → Arbiter) (s : State) :
    s.arbitrate f = { s with
      arbiter := f s.arbiter, share := (s.arbitrate f).share, output := (s.arbitrate f).output } := by
  by_cases h : (f s.arbiter).governing = s.arbiter.governing
  · rw [State.arbitrate_same h]
  · rw [State.arbitrate_new h]
    rfl

/-- A change of the governing mode recomputes the allowance, and nothing else is handed on (R98). -/
theorem State.arbitrate_handsMode (f : Arbiter → Arbiter) (s : State) : s.HandsMode (s.arbitrate f) := by
  unfold State.HandsMode
  by_cases h : (f s.arbiter).governing = s.arbiter.governing
  · rw [State.arbitrate_same h, if_pos h]
    exact ⟨rfl, rfl⟩
  · rw [State.arbitrate_new h]
    exact (if_neg h).mpr (State.recompute_recomputes { s with arbiter := f s.arbiter })

/-- A change of the arbiter keeps the allowance the one of its inputs. -/
theorem State.Reckons.arbitrate {u s : State} (h : u.Reckons s) (f : Arbiter → Arbiter) : u.Reckons (s.arbitrate f) := by
  by_cases hg : (f s.arbiter).governing = s.arbiter.governing
  · have hinputs : State.shareInputs { s with arbiter := f s.arbiter } = s.shareInputs := by
      unfold State.shareInputs
      rw [hg]
      rfl
    rw [State.arbitrate_same hg, State.Reckons, hinputs]
    exact h
  · have hhold : s.share.hold = u.share.hold := by rw [h]; rfl
    have hcap : s.share.cap = u.share.cap := by rw [h]; rfl
    rw [State.arbitrate_new hg, State.Reckons, ← hhold, ← hcap]
    exact State.recompute_reckons { s with arbiter := f s.arbiter }

/-- A change of the arbiter keeps the targets those of their sources. -/
theorem State.TargetsTaken.arbitrate {s : State} (h : s.TargetsTaken) (f : Arbiter → Arbiter) :
    (s.arbitrate f).TargetsTaken := by
  by_cases hg : (f s.arbiter).governing = s.arbiter.governing
  · rw [State.arbitrate_same hg, State.TargetsTaken, State.flowTargets_of_governing hg]
    exact h
  · rw [State.arbitrate_new hg]
    exact State.takeTargets_taken _

/-- The DOOR cause's three cases (R102, R103). -/
theorem Arbiter.judgeCause_judged (holds running : Bool) (a : Arbiter) :
    a.CauseJudged holds running (a.judgeCause holds running) := by
  refine ⟨fun h => Arbiter.judgeCause_same h running, fun hc hh hr => ?_, fun hc hh hr => ?_, fun hc hh => ?_⟩
  · rw [hh, Arbiter.judgeCause_begins hc, if_pos hr]
  · rw [hh, Arbiter.judgeCause_begins hc, if_neg (by simp [hr])]
  · rw [hh, Arbiter.judgeCause_ends hc]
    simp only [Bool.or_eq_true]
    rfl

theorem Arbiter.judgeCause_ownDoor (holds running : Bool) (a : Arbiter) :
    (a.judgeCause holds running).ownDoor = a.ownDoor := by
  unfold Arbiter.judgeCause
  split
  · split_ifs
    · exact (Arbiter.keepsDoor_raise .door { a with cause := true, tail := none }).ownDoor
    · rfl
  · split_ifs <;> rfl
  · rfl
  · rfl

/-- The DOOR cause judged leaves its conditions as they stand. -/
theorem State.judgeDoor_doorHolds (s : State) : s.judgeDoor.doorHolds = s.doorHolds :=
  State.arbitrate_doorHolds (Arbiter.judgeCause_ownDoor _ _ _)

theorem State.judgeDoor_judged (s : State) :
    s.arbiter.CauseJudged s.judgeDoor.doorHolds s.isRunning s.judgeDoor.arbiter := by
  rw [s.judgeDoor_doorHolds, ← s.doorCause_eq, State.judgeDoor, State.arbitrate_frame]
  exact Arbiter.judgeCause_judged _ _ _

/-! ## Peer entries -/

/-- What an event of a peer entry hands on (R41; log 17). -/
theorem State.handEntry_hands (number : Nat) (p : Peers) (s : State) :
    let t := State.handEntry number { s with peers := p }
    t = { s with peers := p, sensing := t.sensing, share := t.share, arbiter := t.arbiter, output := t.output }
    ∧ s.HandsEntry number t := by
  let v : State := { s with peers := p }
  have hreckons : s.Reckons v.recompute.selectAgain := v.recompute_reckons
  have htaken : v.recompute.selectAgain.TargetsTaken := v.reckon.takeTargets_taken
  unfold State.handEntry
  by_cases hadj : adjacentTo v.own number = true
  · have hneighbour : number + 1 = s.own ∨ number = s.own + 1 := (adjacentTo_iff _ _).mp hadj
    have hframe := State.arbitrate_frame
      (Arbiter.judgeCause v.recompute.selectAgain.doorCause v.recompute.selectAgain.isRunning) v.recompute.selectAgain
    have hjudged := v.recompute.selectAgain.judgeDoor_judged
    have hmode := State.arbitrate_handsMode
      (Arbiter.judgeCause v.recompute.selectAgain.doorCause v.recompute.selectAgain.isRunning) v.recompute.selectAgain
    have hpeers : v.recompute.selectAgain.judgeDoor.peers = p := by rw [State.judgeDoor, hframe]; rfl
    rw [if_pos hadj]
    refine ⟨?_, ?_, hreckons.arbitrate _, htaken.arbitrate _, ?_, ?_⟩
    · rw [State.judgeDoor, hframe]
      rfl
    · rw [State.judgeDoor, hframe]
      rfl
    · rw [if_pos hneighbour]
      exact hjudged
    · rw [hpeers]
      exact hmode
  · have hneighbour : ¬(number + 1 = s.own ∨ number = s.own + 1) := fun h => hadj ((adjacentTo_iff _ _).mpr h)
    rw [if_neg hadj]
    refine ⟨rfl, rfl, hreckons, htaken, ?_, ?_⟩
    · rw [if_neg hneighbour]
      rfl
    · exact (if_pos rfl).mpr ⟨rfl, rfl⟩

/-- Writing an entry leaves the entries of other numbers. -/
theorem filter_writeEntry (e : Entry) (table : List Entry) :
    (writeEntry e table).filter (·.number ≠ e.number) = table.filter (·.number ≠ e.number) := by
  induction table with
  | nil => simp [writeEntry]
  | cons x xs ih =>
    simp only [writeEntry]
    split_ifs with hlt heq
    · simp
    · simp [heq]
    · rw [List.filter_cons, List.filter_cons, ih]

/-- A report that bears the own number (R46). -/
theorem State.duplicateHeard_cases (s : State) :
    (s.peers.duplicate.isSome = true
        ∧ s.duplicateHeard = { s with peers := { s.peers with duplicate := some (12 * s.cfg.period) } })
    ∨ (s.peers.duplicate.isSome ≠ true
        ∧ s.duplicateHeard = State.recompute { s with peers := { s.peers with duplicate := some (12 * s.cfg.period) } }) := by
  unfold State.duplicateHeard
  by_cases h : s.peers.duplicate.isSome = true
  · exact .inl ⟨h, if_pos h⟩
  · exact .inr ⟨h, if_neg h⟩

theorem State.reportFrom_own {source : Nat} {s : State} (h : source = s.own) (r : ReportBody) :
    s.reportFrom source r = s.duplicateHeard := if_pos h

theorem State.reportFrom_dropped {source : Nat} {s : State} (h : source ≠ s.own) (hz : ¬(1 ≤ source ∧ source ≤ s.cfg.zones))
    (r : ReportBody) : s.reportFrom source r = s := by
  rw [State.reportFrom, if_neg h, if_neg hz]

theorem State.reportFrom_eligible {source : Nat} {s : State} (h : source ≠ s.own) (hz : 1 ≤ source ∧ source ≤ s.cfg.zones)
    (r : ReportBody) :
    s.reportFrom source r = State.handEntry source
      { s with peers := { s.peers with table := writeEntry (entryOf source r) s.peers.table } } := by
  rw [State.reportFrom, if_neg h, if_pos hz]

/-- A report of an eligible source writes its entry and hands it on (R38, R39, R41). -/
theorem State.reportFrom_hands {source : Nat} {s : State} (h : source ≠ s.own) (hz : 1 ≤ source ∧ source ≤ s.cfg.zones)
    (r : ReportBody) :
    let t := s.reportFrom source r
    t = { s with
      peers := { s.peers with table := writeEntry (entryOf source r) s.peers.table }
      sensing := t.sensing, share := t.share, arbiter := t.arbiter, output := t.output }
    ∧ s.HandsEntry source t := by
  rw [State.reportFrom_eligible h hz]
  exact State.handEntry_hands source _ s

theorem State.reportFrom_link (source : Nat) (r : ReportBody) (s : State) : (s.reportFrom source r).link = s.link := by
  by_cases hown : source = s.own
  · rw [State.reportFrom_own hown]
    obtain ⟨-, he⟩ | ⟨-, he⟩ := s.duplicateHeard_cases <;> rw [he]
    rfl
  · by_cases hz : 1 ≤ source ∧ source ≤ s.cfg.zones
    · rw [State.reportFrom_eligible hown hz, (State.handEntry_hands source _ s).1]
    · rw [State.reportFrom_dropped hown hz]

/-- Settles O36: the source sorts the report; an eligible one writes its entry and hands it on. -/
theorem reportArrivalKept : Obligations.ReportArrivalKept := by
  intro source r s hs hh
  dsimp only
  refine ⟨(State.reportFrom source r s.hears).watch s, State.arrives hh _,
    State.upkept_of_link (s.hears.reportFrom_link source r) s, fun hown => ?_, fun hother hout => ?_, fun hother hl hz => ?_⟩
  · rw [State.reportFrom_own (s := s.hears) hown]
    obtain ⟨hd, he⟩ | ⟨hd, he⟩ := s.hears.duplicateHeard_cases <;> rw [he]
    · exact ⟨rfl, (if_pos hd).mpr ⟨rfl, rfl⟩⟩
    · exact ⟨rfl, (if_neg hd).mpr (State.recompute_recomputes _)⟩
  · rw [State.reportFrom_dropped (s := s.hears) hother (by rw [State.hears_cfg]; omega)]
    rfl
  · obtain ⟨hframe, hhands⟩ := State.reportFrom_hands (s := s.hears) hother ⟨hl, hz⟩ r
    have hwritten := entryFor_writeEntry (entryOf source r) s.peers.table
    generalize s.hears.reportFrom source r = t at hframe hhands ⊢
    have hpeers : t.peers.table = writeEntry (entryOf source r) s.peers.table := by
      rw [hframe]
      rfl
    refine ⟨?_, ?_, ?_, ?_, hhands⟩
    · rw [hframe]
      rfl
    · rw [State.watch_peers, hpeers]
      exact hwritten
    · rw [State.watch_peers, hpeers]
      exact filter_writeEntry (entryOf source r) s.peers.table
    · rw [State.watch_peers, hpeers]
      exact writeEntry_ascending hs.fit.peers.1

/-! ## Ageing -/

/-- The change of state of an entry, and what it hands on (R40, R41). -/
theorem State.stand_hands (number : Nat) (state : EntryState) (s : State) :
    let t := s.stand number state
    t = { s with
      peers := { s.peers with table := setStanding number state s.peers.table }
      sensing := t.sensing, share := t.share, arbiter := t.arbiter, output := t.output }
    ∧ s.HandsEntry number t := State.handEntry_hands number _ s

/-- Settles O37: the entry's state set, with its age at the end it has reached, and what that hands on. -/
theorem entriesAgeAndDuplicateEnds : Obligations.EntriesAgeAndDuplicateEnds := by
  refine fun e left s hs => ⟨fun he hlive => ?_, fun he hkept => ?_, fun ht => ?_⟩
  · have hin : s.staleIn e.number = some (3 * s.cfg.period - e.age) := by
      rw [State.staleIn, he]
      simp only [hlive]
      rfl
    obtain ⟨hframe, hhands⟩ := State.stand_hands e.number .stale (s.elapse (3 * s.cfg.period - e.age))
    refine ⟨_, State.expires hin _ s, ?_, hhands, State.upkept_of_link (by rw [hframe]) s⟩
    generalize State.stand e.number .stale (s.elapse (3 * s.cfg.period - e.age)) = t at hframe ⊢
    rw [hframe]
    rfl
  · have hin : s.lostIn e.number = some (12 * s.cfg.period - e.age) := by
      rw [State.lostIn, he]
      cases h : e.state with
      | lost => exact absurd h hkept
      | live | stale =>
        simp only [h]
        rfl
    have htable : setStanding e.number .lost (s.elapse (12 * s.cfg.period - e.age)).peers.table
        = (s.elapse (12 * s.cfg.period - e.age)).peers.table.map fun x =>
            if x.number = e.number then { x with state := .lost, age := 12 * s.cfg.period } else x := by
      refine List.map_congr_left fun x hx => ?_
      by_cases hn : x.number = e.number
      · have hage := hs.fit.peers.aged he _ hx hn
        obtain ⟨hmem, -⟩ := (entryFor_eq_some_iff hs.fit.peers.nodup).mp he
        have hmost : e.age ≤ 12 * s.cfg.period := by
          obtain ⟨-, -, -, h, -⟩ := hs.fit.peers.2.1 e hmem
          exact h
        rw [if_pos hn, if_pos hn, show x.age = 12 * s.cfg.period by omega]
      · rw [if_neg hn, if_neg hn]
    obtain ⟨hframe, hhands⟩ := State.stand_hands e.number .lost (s.elapse (12 * s.cfg.period - e.age))
    refine ⟨_, State.expires hin _ s, ?_, hhands, State.upkept_of_link (by rw [hframe]) s⟩
    rw [← htable]
    generalize State.stand e.number .lost (s.elapse (12 * s.cfg.period - e.age)) = t at hframe ⊢
    rw [hframe]
    rfl
  · exact ⟨_, State.expires ht _ s, rfl, State.recompute_recomputes _, State.upkept_of_link rfl s⟩

/-! ## Source records -/

/-- Settles O34: each event writes its record and forms the allowance afresh. -/
theorem sourcesHeardAndSilent : Obligations.SourcesHeardAndSilent := by
  refine fun units capacity coolant fault left s => ⟨⟨fun hh => ?_, fun ht => ?_⟩, fun hh => ?_, fun ht => ?_⟩
  · exact ⟨_, State.arrives hh _, rfl, State.recompute_recomputes _, State.upkept_of_link rfl s⟩
  · exact ⟨_, State.expires ht _ s, rfl, State.recompute_recomputes _, State.upkept_of_link rfl s⟩
  · exact ⟨_, State.arrives hh _, rfl, State.recompute_recomputes _, State.upkept_of_link rfl s⟩
  · exact ⟨_, State.expires ht _ s, rfl, State.recompute_recomputes _, State.upkept_of_link rfl s⟩

end Sys2Proof.Machine
end

section
/-! PANEL and OVERLOAD: the modes and station states they bring, the stages they take off (sections 3.5, 5.7, 9.1). -/

namespace Sys2Proof.Machine

/-! ## PANEL -/

/-- The arbiter once the mode of the old panel mode has ended (R99). -/
def Arbiter.panelEnded (old : PanelMode) (a : Arbiter) : Arbiter :=
  if old = .economy then a.finish .economy else if old = .vent then a.finish .vent else a

theorem Arbiter.panelChange_eq (old new : PanelMode) (running : Bool) (a : Arbiter) :
    a.panelChange old new running =
      if running = true ∧ new = .economy then (a.panelEnded old).raise .economy
      else if running = true ∧ new = .vent then (a.panelEnded old).raise .vent else a.panelEnded old := by
  cases old <;> cases new <;> cases running <;> rfl

/-- An arbiter in which no mode is marked has none to end (R112). -/
theorem Arbiter.panelEnded_of_unmarked {a : Arbiter} (h : ∀ m, ¬a.Marked m) (old : PanelMode) : a.panelEnded old = a := by
  unfold Arbiter.panelEnded
  split_ifs
  · exact Arbiter.finish_of_unmarked (h _)
  · exact Arbiter.finish_of_unmarked (h _)
  · rfl

theorem Arbiter.keepsDoor_panelEnded (old : PanelMode) (a : Arbiter) : a.KeepsDoor (a.panelEnded old) := by
  unfold Arbiter.panelEnded
  split_ifs
  · exact a.keepsDoor_finish .economy
  · exact a.keepsDoor_finish .vent
  · exact .refl a

/-- The PANEL stops the station: to STANDBY (R170). -/
abbrev State.PanelStops (mode : PanelMode) (s : State) : Prop :=
  s.control.state = .running ∧ mode = .off ∧ (s.peers.panel.mode ≠ .off ∨ s.peers.panel.silence = none)

/-- The PANEL starts the station: to RUNNING (R170). -/
abbrev State.PanelStarts (mode : PanelMode) (s : State) : Prop :=
  (s.control.state = .standby ∨ s.control.state = .test) ∧ mode ≠ .off ∧ mode ≠ s.peers.panel.mode

/-- The PANEL stored, and its new mode at the arbiter (R49, R99). -/
theorem State.panelled_cases (mode : PanelMode) (setpoint : Word) (s : State) :
    (mode = s.peers.panel.mode ∧ s.panelled mode setpoint = { s with peers := s.peers.takePanel mode setpoint })
    ∨ (mode ≠ s.peers.panel.mode
        ∧ s.panelled mode setpoint = State.arbitrate (Arbiter.panelChange s.peers.panel.mode mode s.isRunning)
            { s with peers := s.peers.takePanel mode setpoint }) := by
  unfold State.panelled
  by_cases h : mode = s.peers.panel.mode
  · exact .inl ⟨h, if_pos h⟩
  · exact .inr ⟨h, if_neg h⟩

/-- The move of the station state that a PANEL brings (R166, R170). -/
theorem State.panel_cases (mode : PanelMode) (setpoint : Word) (s : State) :
    (s.PanelStops mode ∧ s.panel mode setpoint = (s.panelled mode setpoint).enterStandby)
    ∨ (s.PanelStarts mode ∧ s.panel mode setpoint = (s.panelled mode setpoint).enterRunning)
    ∨ (¬s.PanelStops mode ∧ ¬s.PanelStarts mode ∧ s.panel mode setpoint = s.panelled mode setpoint) := by
  obtain ⟨-, -, -, -, hcontrol, -, -, hpeers⟩ := s.panelled_frame mode setpoint
  have hmode : (s.panelled mode setpoint).peers.panel.mode = mode := by rw [hpeers]; rfl
  have hsilent : (decide (mode ≠ s.peers.panel.mode) || !fresh s.peers.panel.silence) = true
      ↔ mode ≠ s.peers.panel.mode ∨ s.peers.panel.silence = none := by
    simp [fresh_eq]
  have hchanged : decide (mode ≠ s.peers.panel.mode) = true ↔ mode ≠ s.peers.panel.mode := decide_eq_true_iff
  rw [State.panel_eq]
  have hcases := (s.panelled mode setpoint).followPanel_cases (decide (mode ≠ s.peers.panel.mode))
    (!fresh s.peers.panel.silence)
  rw [hcontrol, hmode, hsilent, hchanged] at hcases
  obtain ⟨hs, rfl, hor, he⟩ | ⟨hs, ho, hne, he⟩ | ⟨hstops, hstarts, he⟩ := hcases
  · exact .inl ⟨⟨hs, rfl, hor.imp_left Ne.symm⟩, he⟩
  · exact .inr (.inl ⟨⟨hs, ho, hne⟩, he⟩)
  · refine .inr (.inr ⟨fun ⟨h1, h2, h3⟩ => hstops ⟨h1, h2, h3.imp_left fun h => ?_⟩, hstarts, he⟩)
    rw [h2]
    exact h.symm

/-- In RUNNING a new panel mode ends the old one's mode and raises its own (R99, R104). -/
theorem State.panelled_arbiter_of_running {s : State} (hs : s.control.state = .running) (mode : PanelMode) (setpoint : Word) :
    (s.panelled mode setpoint).arbiter =
      if mode = s.peers.panel.mode then s.arbiter
      else if mode = .economy then (s.arbiter.panelEnded s.peers.panel.mode).raise .economy
      else if mode = .vent then (s.arbiter.panelEnded s.peers.panel.mode).raise .vent
      else s.arbiter.panelEnded s.peers.panel.mode := by
  have hrun : s.isRunning = true := by simp [State.isRunning, hs]
  obtain ⟨h, he⟩ | ⟨h, he⟩ := s.panelled_cases mode setpoint
  · rw [he, if_pos h]
  · rw [he, if_neg h, State.arbitrate_frame, Arbiter.panelChange_eq]
    simp only [hrun, true_and]

/-- Outside RUNNING a PANEL leaves the arbiter, in which no mode is marked (R99, R104). -/
theorem State.panelled_of_not_running {s : State} (ha : s.ArbiterSound) (hs : s.control.state ≠ .running) (mode : PanelMode)
    (setpoint : Word) : s.panelled mode setpoint = { s with peers := s.peers.takePanel mode setpoint } := by
  have hrun : s.isRunning = false := by simpa [State.isRunning] using hs
  have hsame : s.arbiter.panelChange s.peers.panel.mode mode s.isRunning = s.arbiter := by
    rw [Arbiter.panelChange_eq, hrun, if_neg (by simp), if_neg (by simp),
      Arbiter.panelEnded_of_unmarked (ha.ready.unmarked hs)]
  obtain ⟨-, he⟩ | ⟨-, he⟩ := s.panelled_cases mode setpoint
  · exact he
  · have hgoverning := congrArg Arbiter.governing hsame
    rw [he, State.arbitrate_same (s := { s with peers := s.peers.takePanel mode setpoint }) hgoverning]
    exact congrArg (fun a => { s with peers := s.peers.takePanel mode setpoint, arbiter := a }) hsame

theorem State.panelled_handsMode (mode : PanelMode) (setpoint : Word) (s : State) :
    s.HandsMode (s.panelled mode setpoint) := by
  obtain ⟨-, he⟩ | ⟨-, he⟩ := s.panelled_cases mode setpoint <;> rw [he]
  · exact (if_pos rfl).mpr ⟨rfl, rfl⟩
  · exact State.arbitrate_handsMode _ { s with peers := s.peers.takePanel mode setpoint }

/-! ## Positions -/

theorem State.takeTargets_positions (s : State) :
    s.takeTargets.output.fanPos = s.output.fanPos ∧ s.takeTargets.output.damperPos = s.output.damperPos := by
  have h := Output.keepsPositions_takeStageTarget s.own s.stageTarget (s.output.takeFlow s.flowTargets)
  exact ⟨(congrArg Output.fanPos h :), (congrArg Output.damperPos h :)⟩

theorem State.arbitrate_positions (f : Arbiter → Arbiter) (s : State) :
    (s.arbitrate f).output.fanPos = s.output.fanPos ∧ (s.arbitrate f).output.damperPos = s.output.damperPos := by
  by_cases h : (f s.arbiter).governing = s.arbiter.governing
  · rw [State.arbitrate_same h]
    exact ⟨rfl, rfl⟩
  · rw [State.arbitrate_new h]
    exact State.takeTargets_positions _

/-- An OFF ends the panel's mode, and with it what a change of the governing mode brings (R99, R117; log 17). -/
theorem State.panelled_of_off (setpoint : Word) (s : State) :
    s.arbiter.KeepsDoor (s.panelled .off setpoint).arbiter
    ∧ (s.panelled .off setpoint).output
        = (State.withMode (s.arbiter.panelEnded s.peers.panel.mode)
            { s with peers := s.peers.takePanel .off setpoint }).output
    ∧ (s.panelled .off setpoint).output.fanPos = s.output.fanPos
    ∧ (s.panelled .off setpoint).output.damperPos = s.output.damperPos := by
  obtain ⟨h, he⟩ | ⟨-, he⟩ := s.panelled_cases .off setpoint
  · rw [he, Arbiter.panelEnded, if_neg (by simp [← h]), if_neg (by simp [← h]), State.withMode, if_pos rfl]
    exact ⟨.refl _, rfl, rfl, rfl⟩
  · have hpositions := State.arbitrate_positions (Arbiter.panelChange s.peers.panel.mode .off s.isRunning)
      { s with peers := s.peers.takePanel .off setpoint }
    have hchange : s.arbiter.panelChange s.peers.panel.mode .off s.isRunning = s.arbiter.panelEnded s.peers.panel.mode := by
      rw [Arbiter.panelChange_eq, if_neg (by simp), if_neg (by simp)]
    rw [he]
    refine ⟨?_, ?_, hpositions.1, hpositions.2⟩
    · rw [State.arbitrate_frame]
      change s.arbiter.KeepsDoor (s.arbiter.panelChange s.peers.panel.mode .off s.isRunning)
      rw [hchange]
      exact Arbiter.keepsDoor_panelEnded _ _
    · rw [State.arbitrate_eq_withMode, ← hchange]

/-- What a change of the arbiter hands to the output stage does not turn on the link controller. -/
theorem State.withMode_withLink (a : Arbiter) (s : State) (l : Link) :
    (State.withMode a { s with link := l }).output = (State.withMode a s).output := by
  unfold State.withMode
  dsimp only
  split_ifs <;> rfl

/-- An entry to STANDBY keeps of the arbiter the door's conditions alone. -/
theorem State.StandsBy.of_door {u v t : State} (h : v.StandsBy t) (hc : v.control = u.control)
    (hd : u.arbiter.KeepsDoor v.arbiter) : u.StandsBy t := by
  obtain ⟨h1, h2, h3, h4, h5, h6⟩ := h
  refine ⟨h1.trans (by rw [hc]), h2, h3, h4, h5, h6.trans ?_⟩
  dsimp only
  rw [hd.ownDoor, hd.dwell, hd.cause]

/-- The station after a PANEL, the blocks it reaches apart. -/
theorem State.panel_frame (mode : PanelMode) (setpoint : Word) (s : State) :
    let t := s.panel mode setpoint
    t = { s with
      peers := s.peers.takePanel mode setpoint, control := t.control, demand := t.demand, share := t.share
      arbiter := t.arbiter, output := t.output } := by
  have hw : s.panelled mode setpoint = { s with
      peers := s.peers.takePanel mode setpoint, share := (s.panelled mode setpoint).share
      arbiter := (s.panelled mode setpoint).arbiter, output := (s.panelled mode setpoint).output } := by
    obtain ⟨-, he⟩ | ⟨-, he⟩ := s.panelled_cases mode setpoint <;> rw [he]
    rw [State.arbitrate_frame]
  intro t
  obtain ⟨-, he⟩ | ⟨-, he⟩ | ⟨-, -, he⟩ := s.panel_cases mode setpoint <;> rw [show t = _ from he]
  · rw [State.enterStandby_frame, hw]
  · rw [State.enterRunning_frame, hw]
  · rw [hw]

/-- Settles O35: the arbiter's change first, then the entry to the station state it calls for. -/
theorem panelHeardAndSilent : Obligations.PanelHeardAndSilent := by
  refine fun mode setpoint left s hs => ⟨fun hh => ?_, fun ht => ⟨_, State.expires ht _ s, rfl, State.watch_upkept _ s⟩⟩
  have hframe := s.hears.panel_frame mode setpoint
  have hcases := s.hears.panel_cases mode setpoint
  have hrunning := fun h => State.panelled_arbiter_of_running (s := s.hears) h mode setpoint
  have hresting := fun h => State.panelled_of_not_running (s := s.hears) hs.fit.arbiter h mode setpoint
  have hmode := s.hears.panelled_handsMode mode setpoint
  have hcontrol : (s.hears.panelled mode setpoint).control = s.control := by
    obtain ⟨-, -, -, -, h, -⟩ := s.hears.panelled_frame mode setpoint
    exact h
  have hstay : ¬s.PanelStops mode → ¬s.PanelStarts mode → s.hears.panel mode setpoint = s.hears.panelled mode setpoint :=
    fun hstops hstarts => ((hcases.resolve_left fun h => hstops h.1).resolve_left fun h => hstarts h.1).2.2
  refine ⟨_, State.arrives hh _, ?_, State.upkept_of_link (by rw [hframe]) s, fun hstops => ?_, fun hstarts => ?_,
    fun hstops hstarts => ?_, fun hst hstops => ?_, fun hst hstarts => ?_⟩
  · generalize s.hears.panel mode setpoint = t at hframe ⊢
    rw [hframe]
    rfl
  · have he : s.hears.panel mode setpoint = (s.hears.panelled mode setpoint).enterStandby := by
      obtain ⟨-, he⟩ | ⟨⟨-, ho, -⟩, -⟩ | ⟨hn, -⟩ := hcases
      · exact he
      · exact absurd hstops.2.1 ho
      · exact absurd hstops hn
    obtain ⟨-, rfl, -⟩ := hstops
    obtain ⟨hdoor, hout, hfan, hdamper⟩ := s.hears.panelled_of_off setpoint
    obtain ⟨hstands, htakes⟩ := (s.hears.panelled .off setpoint).enterStandby_standsBy
    have hpositions := State.takeTargets_positions (s.hears.panelled .off setpoint).stoodBy.reckon
    rw [he]
    refine ⟨hstands.of_door hcontrol hdoor, ?_, hpositions.1.trans hfan, hpositions.2.trans hdamper⟩
    rw [hout.trans (State.withMode_withLink _ { s with peers := s.peers.takePanel .off setpoint } s.hears.link)] at htakes
    exact htakes
  · have he : s.hears.panel mode setpoint = (s.hears.panelled mode setpoint).enterRunning := by
      obtain ⟨⟨-, ho, -⟩, -⟩ | ⟨-, he⟩ | ⟨-, hn, -⟩ := hcases
      · exact absurd ho hstarts.2.1
      · exact he
      · exact absurd hstarts hn
    have hst : s.control.state ≠ .running := by
      obtain h | h := hstarts.1 <;> rw [h] <;> decide
    obtain ⟨hp, hact, hg, hstack, -⟩ := hs.fit.arbiter.ready.cleared hst
    rw [he, hresting hst]
    exact State.enterRunning_runs (s := { s.hears with peers := s.peers.takePanel mode setpoint }) hp hact hg hstack
  · rw [hstay hstops hstarts]
    refine ⟨hcontrol, ?_, hmode⟩
    obtain ⟨-, he⟩ | ⟨-, he⟩ := s.hears.panelled_cases mode setpoint <;> rw [he]
    · rfl
    · rw [State.arbitrate_frame]
      rfl
  · have hstarts : ¬s.PanelStarts mode := fun ⟨h, _⟩ => by simp [hst] at h
    rw [hstay hstops hstarts]
    exact hrunning hst
  · have hstops : ¬s.PanelStops mode := fun h => hst h.1
    rw [hstay hstops hstarts, hresting hst]
    rfl

/-! ## OVERLOAD -/

/-- The share unit at an OVERLOAD where the hold is in force (R92, R93). -/
theorem State.shareAtOverload_inForce {s : State} (h : s.control.state = .running ∨ s.control.state = .test) :
    s.shareAtOverload = State.reckon
      { s with share := { s.share with hold := some (2000 * s.own), cap := s.output.stagesOn - 1 } } := by
  unfold State.shareAtOverload
  obtain h | h := h <;> rw [h] <;> rfl

theorem State.shareAtOverload_starting {s : State} (h : s.control.state = .starting) : s.shareAtOverload = s.reckon := by
  unfold State.shareAtOverload
  rw [h]

theorem State.shareAtOverload_standby {s : State} (h : s.control.state = .standby) : s.shareAtOverload = s := by
  unfold State.shareAtOverload
  rw [h]

theorem State.overload_frame (s : State) :
    s.overload = { s with share := s.shareAtOverload.share, output := s.overload.output } := by
  obtain ⟨-, he⟩ | ⟨-, he⟩ := s.overload_cases <;> rw [he]
  · rw [State.shed, s.shareAtOverload_frame]
  · rw [State.takeTargets, s.shareAtOverload_frame]

/-- A stage target of 0 handed to a sequencer with no stage on switches nothing on (R126). -/
theorem Output.takeStageTarget_zero {own : Nat} {o : Output} (hz : o.stagesOn = 0) :
    (o.takeStageTarget own 0).stagesOn = 0 := by
  unfold Output.takeStageTarget
  split_ifs
  · exact hz
  · obtain ⟨-, he⟩ | ⟨-, ht, -⟩ | ⟨-, ht, -⟩ | ⟨-, -, -, he⟩ := Output.settle_cases own { o with stageTarget := 0 }
    · rw [he]
      exact hz
    · exact absurd ht (by simp [hz])
    · exact absurd ht (by simp [hz])
    · rw [he]
      exact hz

/-- Where the targets do not turn on the allowance, an OVERLOAD with no stage on leaves the output stage. -/
theorem State.overload_idle {s : State} (hs : s.control.state = .starting ∨ s.control.state = .standby)
    (ht : s.TargetsTaken) (hz : s.output.stagesOn = 0) : s.overload.output = s.output := by
  have htaken : s.shareAtOverload.TargetsTaken := by
    obtain h | h := hs
    · rw [State.shareAtOverload_starting h]
      rw [State.TargetsTaken, State.flowTargets, State.stageTarget, h] at ht
      rw [State.TargetsTaken, State.flowTargets, State.stageTarget, State.reckon_control, h]
      exact ht
    · rwa [State.shareAtOverload_standby h]
  obtain ⟨hpos, -⟩ | ⟨-, he⟩ := s.overload_cases
  · omega
  · rw [he, State.takeTargets_of_taken htaken, s.shareAtOverload_frame]

/-- Settles O38: the stage taken off at once, the hold with its cap, and the targets as they then stand. -/
theorem overloadShedsAndHoldEnds : Obligations.OverloadShedsAndHoldEnds := by
  refine fun left s => ⟨fun hs hh => ?_, fun ht => ?_⟩
  · have ha : s.acting = true := hh.1
    have hfit := hs.fit.hears (by simp [State.attentive, hh.2, ((State.acting_iff s).mp ha).1])
    obtain ⟨-, -, htarget⟩ := hfit.shareAtOverload ha
    have hframe := s.hears.overload_frame
    have hcases := s.hears.overload_cases
    have hout : s.hears.shareAtOverload.output = s.output := by rw [State.shareAtOverload_frame]; rfl
    have hsequencer := (hs.of_exec (c := .overloadArrival) (State.arrives hh _)).fit.output.ready.sequencer
    have hon : (s.hears.overload).output.stagesOn = s.output.stagesOn - 1 := by
      obtain ⟨-, he⟩ | ⟨hz, he⟩ := hcases <;> rw [he]
      · rw [State.shed_output]
        rfl
      · have hzero : s.hears.shareAtOverload.stageTarget = 0 := by omega
        have hoff : s.output.stagesOn = 0 := hz
        rw [State.takeTargets_output', hzero, hoff]
        exact Output.takeStageTarget_zero (by rw [Output.takeFlow, hout]; exact hz)
    have hshare : (s.hears.overload).share = s.hears.shareAtOverload.share := by rw [hframe]
    refine ⟨_, State.arrives hh _, ?_, State.upkept_of_link (by rw [hframe]) s, hon, fun hpos => ?_, fun hf => ?_,
      fun hf hz => ?_, fun hst => ?_, fun hst => ?_⟩
    · generalize s.hears.overload = t at hframe ⊢
      rw [hframe]
      rfl
    · obtain ⟨-, he⟩ | ⟨hz, -⟩ := hcases
      · have hafter : s.output.afterRun = none := (hs.fit.output.ready.steady.driven hpos).2
        rw [he]
        refine ⟨?_, ?_, State.shed_taken _ _⟩
        · rw [State.watch_output, State.shed_output, hout]
          have hone : (if s.hears.output.stagesOn - 1 = 0 then some 30000 else s.output.afterRun)
              = if s.output.stagesOn = 1 then some 30000 else none := by
            rw [hafter]
            exact if_congr (show s.output.stagesOn - 1 = 0 ↔ _ by omega) rfl rfl
          rw [hone]
          rfl
        · rw [State.watch_output, State.shed_output]
          exact htarget
      · have hoff : s.output.stagesOn = 0 := hz
        omega
    · obtain ⟨-, -, -, -, -, -, -, -, -, -, -, hcap⟩ := allowance_bounds (State.shareInputs { s.hears with
        share := { s.share with hold := some (2000 * s.own), cap := s.output.stagesOn - 1 } })
      rw [State.shareAtOverload_inForce (s := s.hears) hf] at hshare
      refine ⟨?_, ?_, ?_, ?_⟩
      · rw [State.watch_share, hshare, hframe]
        rfl
      all_goals rw [State.watch_share, hshare]
      · rfl
      · rfl
      · exact hcap rfl
    · obtain ⟨hpos, -⟩ | ⟨-, he⟩ := hcases
      · exact absurd hpos (by rw [show s.hears.output.stagesOn = 0 from hz]; simp)
      · have htakes := State.takeTargets_takes s.hears.shareAtOverload
        have hzero : s.hears.shareAtOverload.stageTarget = 0 := by
          rw [show s.hears.output.stagesOn = 0 from hz] at htarget
          omega
        have hstage : (s.hears.overload).output.stageTarget = 0 := by
          rw [he, (State.takeTargets_taken _).1, State.takeTargets_stageTarget, hzero]
        refine ⟨?_, hstage, fun hw => ?_⟩
        · rw [hout] at htakes
          rw [he]
          exact htakes
        · have hpos := (hsequencer.2.1 hw).2.1
          rw [State.watch_output, hstage] at hpos
          omega
    · refine ⟨?_, ?_, fun hz => State.overload_idle (s := s.hears) (.inl hst) hs.fit.output.taken hz⟩
      all_goals rw [State.watch_share, hshare, State.shareAtOverload_starting (s := s.hears) hst]
      · rfl
      · exact Option.not_isSome_iff_eq_none.mp fun h => by
          have := hs.fit.share.hold.inForce h
          simp [hst] at this
    · refine ⟨?_, fun hz => State.overload_idle (s := s.hears) (.inr hst) hs.fit.output.taken hz⟩
      rw [State.watch_share, hshare, State.shareAtOverload_standby (s := s.hears) hst]
      rfl
  · exact ⟨_, State.expires ht _ s, rfl, rfl, State.takeTargets_takes _, State.upkept_of_link rfl s⟩

end Sys2Proof.Machine
end

section
/-! The TRIP machine, posts, mode timers and the door (section 8.1, chapter 6): what each event writes and hands on. -/

namespace Sys2Proof.Machine

/-! ## The TRIP machine -/

/-- A change of the interlock unit that leaves the effective ceiling hands nothing on (R163). -/
theorem State.protect_same {f : Interlock → Interlock} {s : State}
    (h : (f s.interlock).effectiveCeiling = (f s.interlock).ceiling) :
    s.protect f = { s with interlock := f s.interlock } :=
  State.handCeiling_same (s := { s with interlock := f s.interlock }) h

/-- Settles O50: the equation of each of the machine's moves, with the ceiling that it brings. -/
theorem tripMachineMoves : Obligations.TripMachineMoves := by
  refine fun left s => ⟨fun hs ha => ⟨fun hp => ?_, fun hp => ?_⟩, fun hs => ⟨fun ht => ?_, fun ht => ?_, fun age hage ht => ?_⟩⟩
  · have hsame : s.interlock.contactOpens.effectiveCeiling = s.interlock.contactOpens.ceiling := by
      rw [Interlock.contactOpens_eq]
      exact hs.fit.interlock.ceiling.symm
    refine ⟨_, (congrArg Host.Outcome.next (if_neg (by simp [hp]))).trans (State.acts (s := s.setContact true) ha _), ?_,
      State.upkept_of_link (by simp [State.setContact]) _⟩
    dsimp only
    rw [State.protect_same (s := s.setContact true) hsame, ← Interlock.contactOpens_eq]
    rfl
  · have hcloses := hs.fit.interlock.ready.contactCloses_eq
    have hsame : s.interlock.contactCloses.effectiveCeiling = s.interlock.contactCloses.ceiling := by
      have hceiling := hs.fit.interlock.ceiling
      rw [Interlock.effectiveCeiling_eq, Interlock.ceilingOf] at hceiling ⊢
      rw [hcloses]
      dsimp only
      rw [hceiling]
      refine if_congr (and_congr_left' ?_) rfl rfl
      cases s.interlock.trip <;> simp
    refine ⟨_, (congrArg Host.Outcome.next (if_pos hp)).trans (State.acts (s := s.setContact false) ha _), ?_,
      State.upkept_of_link (by simp [State.setContact]) _⟩
    dsimp only
    rw [State.protect_same (s := s.setContact false) hsame, ← hcloses]
    rfl
  · have hexec : exec .openDwellExpiry s = .next ((State.protect Interlock.trips (s.elapse left)).watch s) :=
      State.expires ht _ s
    have hnot : (s.elapse left).interlock.trips.trip ≠ .normal := by
      unfold Interlock.trips
      dsimp only
      split_ifs <;> decide
    have hzero : (s.elapse left).interlock.trips.effectiveCeiling = 0 := by
      rw [Interlock.effectiveCeiling_eq, Interlock.ceilingOf, if_neg fun h => hnot h.1]
    obtain ⟨hon, htarget⟩ := (hs.of_exec hexec).none_on ((State.handCeiling_ceiling _).trans hzero)
    refine ⟨_, hexec, ?_, hon, htarget, State.protect_hands rfl, State.upkept_of_link (by simp) s⟩
    have htrips : ((s.elapse left).interlock.tripList.length + 1 < 3) = ((s.elapse left).interlock.tripList.length < 2) :=
      propext (by omega)
    rw [State.protect_frame, hzero, Interlock.trips]
    simp only [htrips]
    rfl
  · refine ⟨_, State.expires ht _ s, ?_, State.protect_hands rfl, State.upkept_of_link (by simp) s⟩
    have hlifts : (s.elapse left).interlock.cooldownEnds.effectiveCeiling
        = if (s.elapse left).interlock.supply = .low then 0 else (s.elapse left).interlock.discharge := by
      unfold Interlock.effectiveCeiling Interlock.cooldownEnds
      cases (s.elapse left).interlock.supply <;> rfl
    rw [State.protect_frame, hlifts]
    rfl
  · have hin : s.interlock.ageOutIn = some left := by
      obtain ⟨ages, hlist⟩ : ∃ ages, s.interlock.tripList = age :: ages := by
        cases hl : s.interlock.tripList with
        | nil => simp [hl] at hage
        | cons a ages =>
          rw [hl] at hage
          cases hage
          exact ⟨ages, rfl⟩
      rw [Interlock.ageOutIn, hlist, ht]
      rfl
    refine ⟨_, State.expires hin _ s, ?_, State.upkept_of_link (by simp) s⟩
    rw [State.protect_same (s := s.elapse left) (hs.elapse left).fit.interlock.ceiling.symm]
    rfl

/-! ## Posts and mode timers -/

theorem State.post_taken {s : State} {source target : Nat} (h : postTaken s.own source target = true)
    (condition : PostCondition) (action : PostAction) :
    s.post source condition action target = s.arbitrate (Arbiter.post s.isRunning (postMode condition) action) := if_pos h

theorem State.post_dropped {s : State} {source target : Nat} (h : ¬postTaken s.own source target = true)
    (condition : PostCondition) (action : PostAction) : s.post source condition action target = s := if_neg h

theorem Arbiter.post_eq (running : Bool) (m : Mode) (action : PostAction) (a : Arbiter) :
    a.post running m action =
      if action = .finish then a.finish m else if running = true then a.raise m else a := by
  cases action <;> rfl

/-- A POST from an assigned source at the station (R27, R98, R100, R104). -/
theorem State.post_written {source : Nat} (hsource : assigned source = true) (condition : PostCondition)
    (action : PostAction) (target : Nat) (s : State) :
    let t := s.post source condition action target
    t = { s with share := t.share, arbiter := t.arbiter, output := t.output }
    ∧ t.arbiter = (if target ≠ 0 ∧ target ≠ s.own then s.arbiter
        else if action = .finish then s.arbiter.finish (postMode condition)
        else if s.control.state = .running then s.arbiter.raise (postMode condition) else s.arbiter)
    ∧ s.HandsMode t := by
  have hrunning : s.isRunning = true ↔ s.control.state = .running := by simp [State.isRunning]
  have htaken : postTaken s.own source target = true ↔ ¬(target ≠ 0 ∧ target ≠ s.own) := by
    simp [postTaken, hsource]
    tauto
  by_cases hdrop : target ≠ 0 ∧ target ≠ s.own
  · rw [State.post_dropped (fun h => htaken.mp h hdrop), if_pos hdrop]
    exact ⟨rfl, rfl, (if_pos rfl).mpr ⟨rfl, rfl⟩⟩
  · rw [State.post_taken (htaken.mpr hdrop), if_neg hdrop]
    refine ⟨?_, ?_, State.arbitrate_handsMode _ s⟩
    · rw [State.arbitrate_frame]
    · rw [State.arbitrate_frame, Arbiter.post_eq]
      exact if_congr Iff.rfl rfl (if_congr hrunning rfl rfl)

/-- Settles O40: the arbiter's change and what it hands on. -/
theorem postsAndModeTimers : Obligations.PostsAndModeTimers := by
  refine fun source condition action target mode left s hs => ⟨fun hh hsource => ?_, fun ht => ?_⟩
  · obtain ⟨hframe, harbiter, hmodes⟩ := s.hears.post_written hsource condition action target
    refine ⟨_, State.arrives hh _, ?_, State.upkept_of_link (by rw [hframe]) s, ?_, hmodes⟩
    · generalize s.hears.post source condition action target = t at hframe ⊢
      rw [hframe]
      rfl
    · cases condition <;> exact harbiter
  · have hframe := State.arbitrate_frame (Arbiter.finish (timedMode mode)) (s.elapse left)
    refine ⟨_, State.expires ht _ s, ?_, State.arbitrate_handsMode _ _, State.upkept_of_link (by rw [hframe]) s⟩
    generalize State.arbitrate (Arbiter.finish (timedMode mode)) (s.elapse left) = t at hframe ⊢
    rw [hframe]
    cases mode <;> rfl

/-! ## The door -/

theorem Arbiter.Sound.stopTail {a : Arbiter} (h : a.Sound) : Arbiter.Sound { a with tail := none } :=
  h.setCause (cause := a.cause) (Timer.within_none _) fun ht => (by cases ht)

/-- The DOOR cause judged once a condition has ceased to hold: no stronger cause begins, so the governing mode stands
(R103). -/
theorem Arbiter.judgeCause_governing {a : Arbiter} {holds : Bool} (h : holds = true → a.cause = true) (running : Bool) :
    (a.judgeCause holds running).governing = a.governing := by
  by_cases hc : a.cause = holds
  · rw [Arbiter.judgeCause_same hc]
  · cases hh : holds with
    | true => exact absurd ((h hh).trans hh.symm) hc
    | false =>
      have hcause : a.cause = true := by simpa [hh] using hc
      rw [Arbiter.judgeCause_ends hcause]

theorem Arbiter.judgeCause_cause (holds running : Bool) (a : Arbiter) : (a.judgeCause holds running).cause = holds := by
  by_cases hc : a.cause = holds
  · rw [Arbiter.judgeCause_same hc, hc]
  · cases hh : holds with
    | true =>
      rw [Arbiter.judgeCause_begins (by simpa [hh] using hc)]
      split_ifs
      · exact (Arbiter.keepsDoor_raise .door { a with cause := true, tail := none }).cause
      · rfl
    | false => rw [Arbiter.judgeCause_ends (by simpa [hh] using hc)]

/-- A closed door's arbiter: the own condition cleared, the dwell stopped, the cause judged (R101, R102, R103). -/
theorem State.Sound.doorCloses_eq {s : State} (hs : s.Sound) :
    let closed := { s.arbiter with ownDoor := false, dwell := none }
    (s.setDoor false).doorCloses =
      { s.setDoor false with
        arbiter := closed.judgeCause (s.cfg.followAdjacent && s.neighbourDoor) s.isRunning } := by
  intro closed
  have hcause := ((s.arbiterSound_iff).mp hs.fit.arbiter).2
  unfold State.doorCloses
  split_ifs with hz
  · have hholds : State.doorCause { s.setDoor false with arbiter := closed } = (s.cfg.followAdjacent && s.neighbourDoor) :=
      State.doorCause_eq _
    have hstill : (s.cfg.followAdjacent && s.neighbourDoor) = true → closed.cause = true := fun h =>
      hcause.trans (by simp only [State.doorHolds, h, Bool.or_true])
    have hgoverning : (closed.judgeCause (s.cfg.followAdjacent && s.neighbourDoor) s.isRunning).governing
        = closed.governing :=
      Arbiter.judgeCause_governing hstill _
    rw [← hholds] at hgoverning ⊢
    exact State.arbitrate_same (s := { s.setDoor false with arbiter := closed }) hgoverning
  · obtain ⟨hown, hdwell⟩ := hs.fit.arbiter.ready.resting hz
    have hclosed : closed = s.arbiter := by
      rw [show closed = { s.arbiter with ownDoor := false, dwell := none } from rfl, ← hown, ← hdwell]
    have hsame : s.arbiter.cause = (s.cfg.followAdjacent && s.neighbourDoor) := by
      rw [hcause, State.doorHolds, hown, Bool.false_or]
    rw [hclosed, Arbiter.judgeCause_same hsame]
    rfl

/-- Settles O41: the own condition written, then the DOOR cause judged. -/
theorem doorConditionMoves : Obligations.DoorConditionMoves := by
  refine fun left s => ⟨fun hs ha => ⟨fun hp => ?_, fun hp => ?_⟩, fun hs => ⟨fun ht => ?_, fun ht => ?_⟩⟩
  · have hopens : (s.setDoor true).doorOpens = { s.setDoor true with
        arbiter := { s.arbiter with dwell := if s.cfg.doorZone = true then some 1000 else none } } := by
      unfold State.doorOpens
      by_cases hz : s.cfg.doorZone = true
      · rw [if_pos hz, if_pos (by exact hz)]
        rfl
      · have hdwell := (hs.fit.arbiter.ready.resting hz).2
        rw [if_neg hz, if_neg (by exact hz), ← hdwell]
        rfl
    refine ⟨_, (congrArg Host.Outcome.next (if_neg (by simp [hp]))).trans (State.acts (s := s.setDoor true) ha _), ?_,
      State.upkept_of_link (by rw [hopens]; rfl) _⟩
    rw [hopens]
    rfl
  · have hcloses := hs.doorCloses_eq
    refine ⟨_, (congrArg Host.Outcome.next (if_pos hp)).trans (State.acts (s := s.setDoor false) ha _), ?_, ?_,
      State.upkept_of_link (by rw [hcloses]; rfl) _⟩
    · rw [hcloses]
      rfl
    · rw [hcloses]
      exact Arbiter.judgeCause_judged _ _ _
  · obtain ⟨-, hopen⟩ := hs.fit.arbiter.ready.dwell (by rw [ht]; rfl)
    let w : State := { s.elapse left with arbiter := { (s.elapse left).arbiter with ownDoor := true, dwell := none } }
    have hends : (s.elapse left).endDwell = w.arbitrate (Arbiter.judgeCause true w.isRunning) := by
      have hcause : w.doorCause = true := rfl
      rw [State.endDwell, show (s.elapse left).pins.doorOpen = true from hopen, ← hcause]
      rfl
    have hframe := State.arbitrate_frame (Arbiter.judgeCause true w.isRunning) w
    have hmodes := State.arbitrate_handsMode (Arbiter.judgeCause true w.isRunning) w
    refine ⟨_, State.expires ht _ s, ?_, ?_, ?_, ?_, ?_, State.upkept_of_link (by rw [hends, hframe]) s⟩
    all_goals rw [hends]
    · generalize State.arbitrate _ w = t at hframe ⊢
      rw [hframe]
      rfl
    · rw [State.watch_arbiter, hframe]
      exact Arbiter.judgeCause_ownDoor _ _ _
    · rw [State.watch_arbiter, hframe]
      exact Arbiter.judgeCause_cause _ _ _
    · rw [State.watch_arbiter, hframe]
      exact Arbiter.judgeCause_judged _ _ _
    · exact hmodes
  · have hframe := State.arbitrate_frame (fun a => Arbiter.finish .door { a with tail := none }) (s.elapse left)
    have hmodes := State.arbitrate_handsMode (fun a => Arbiter.finish .door { a with tail := none }) (s.elapse left)
    have hunmarked := ((hs.elapse left).fit.arbiter.ready.sound.stopTail).unmarked_finish (m := .door) (by decide)
    have harbiter := congrArg State.arbiter hframe
    obtain ⟨hpending, hactive⟩ := not_or.mp hunmarked
    refine ⟨_, State.expires ht _ s, ?_, harbiter, ?_, ?_, hmodes, State.upkept_of_link (by rw [hframe]) s⟩
    · generalize State.arbitrate _ (s.elapse left) = t at hframe ⊢
      rw [hframe]
      rfl
    · rw [State.watch_arbiter, hframe]
      exact Bool.eq_false_iff.mpr hpending
    · rw [State.watch_arbiter, hframe]
      exact Bool.eq_false_iff.mpr hactive

end Sys2Proof.Machine
end

section
/-! Passes, targets, the sequencer, the fan and the damper (chapters 4 and 7): what each event writes. -/

namespace Sys2Proof.Machine

/-! ## Targets -/

/-- Settles O47: the targets by station state and mode. -/
theorem targetsOfStateAndMode : Obligations.TargetsOfStateAndMode := by
  intro s
  refine ⟨fun hs => ⟨?_, ?_⟩, fun hs => ⟨?_, ?_⟩, fun hs => ?_, fun hs hg hmin hu => ?_, rfl⟩
  · rw [State.flowTargets, hs]
    dsimp only [evaporatorTarget]
    cases s.arbiter.governing <;> rfl
  · rw [State.stageTarget, hs]
  · rw [State.flowTargets, hs]
  · rw [State.stageTarget, hs]
    rfl
  · obtain h | h := hs
    · exact State.flowTargets_of_starting h
    · rw [State.flowTargets, State.stageTarget, h]
      exact ⟨rfl, rfl⟩
  · rw [State.flowTargets, hs, hg]
    dsimp only [modeFan]
    rw [hmin, hu]

/-! ## The sequencer -/

/-- Settles O48: the sequencer's cases, and the three expiries that make it settle. -/
theorem sequencerSettles : Obligations.SequencerSettles := by
  refine fun own left o s => ⟨⟨Output.settle_of_stepping, fun hd ht => ?_, fun hd ht => ?_, fun hd ht ha => ?_,
    fun hd ht ha => ?_⟩, fun ht => ?_, fun ht => ?_, fun counted hp ht => ?_⟩
  · rw [Output.settle_of_above hd ht, Output.stagesDownTo]
    have hlast : (o.stagesOn - 1 = 0) = (o.stagesOn = 1) := propext (by omega)
    simp only [hlast]
    rfl
  · rw [Output.settle_of_resting hd (by omega) fun hlt => by omega, Output.resting, if_pos (by omega)]
  · rw [Output.settle_of_allowed hd ht (o.mayStepUp_iff.mpr ha), Output.resting]
    have hreached : (o.stagesOn + 1 = o.stageTarget) = (o.stageTarget ≤ o.stagesOn + 1) := propext (by omega)
    simp only [hreached]
    rfl
  · rw [Output.settle_of_resting hd (by omega) fun _ => Bool.eq_false_iff.mpr fun h => ha (o.mayStepUp_iff.mp h),
      Output.resting, if_neg (by omega)]
  · exact ⟨_, State.expires ht _ s, rfl, State.upkept_of_link rfl s⟩
  · exact ⟨_, State.expires ht _ s, rfl, State.upkept_of_link rfl s⟩
  · have hin : s.output.proof.left = some left := by rw [hp, ht]; rfl
    exact ⟨_, State.expires hin _ s, rfl, State.upkept_of_link rfl s⟩

/-! ## The fan and the damper -/

/-- The effective fan target (R136). -/
theorem State.effectiveFan_eq (s : State) :
    s.effectiveFan =
      let o := s.output
      let held := if 0 < o.stagesOn ∨ o.seq = .waiting ∨ o.afterRun.isSome then max o.fanTarget s.cfg.fanHeatMin
        else o.fanTarget
      let limited := if s.interlock.supply = .low then min held 600 else held
      if s.interlock.trip = .tripped ∨ s.interlock.trip = .cooldown then 1000 else limited := by
  have hheats : s.output.heatsFan = true ↔ 0 < s.output.stagesOn ∨ s.output.seq = .waiting ∨ s.output.afterRun.isSome := by
    simp [Output.heatsFan, or_assoc]
  unfold State.effectiveFan Output.effectiveFan
  simp only [hheats, max_comm s.output.fanTarget, min_comm _ 600]
  cases s.interlock.trip <;> cases s.interlock.supply <;> simp

theorem FanProof.judge_eq (minimum position : Nat) (p : FanProof) :
    p.judge minimum position = if position < minimum then .idle else if p = .idle then .counting 0 else p := by
  unfold FanProof.judge
  cases p <;> simp

/-- Settles O49: the slews toward their targets, and the after-run's end. -/
theorem fanAndDamperMove : Obligations.FanAndDamperMove := by
  refine fun left s => ⟨fun ht => ?_, fun ht => ?_, fun ht => ?_⟩
  · refine ⟨_, State.expires ht _ s, ?_, State.upkept_of_link rfl s⟩
    rw [State.drive, Output.tickFan, FanProof.judge_eq, slew, State.effectiveFan_eq]
    rfl
  · exact ⟨_, State.expires ht _ s, rfl, State.upkept_of_link rfl s⟩
  · exact ⟨_, State.expires ht _ s, rfl, State.upkept_of_link rfl s⟩

/-! ## The control pass -/

theorem State.passInputs_eq (s : State) :
    s.passInputs =
      { cfg := s.cfg, governing := s.arbiter.governing, setpoint := s.peers.panel.setpoint, outside := s.sensing.outside
        ownReturn := if s.sensing.ret.state = .good then s.sensing.ret.filtered else none
        neighbours := (s.peers.table.filter fun e =>
          decide (e.state = .live ∧ (e.number + 1 = s.own ∨ e.number = s.own + 1))).filterMap (·.ret)
        coolant := s.peers.coolant, heatLimited := s.share.heatLimited, coolLimited := s.share.coolLimited } := by
  have hnear : liveNeighbours s.own s.peers.table = s.peers.table.filter fun e =>
      decide (e.state = .live ∧ (e.number + 1 = s.own ∨ e.number = s.own + 1)) :=
    List.filter_congr fun e _ => by simp [adjacentTo, Bool.and_comm]
  rw [State.passInputs, usable_eq, adjacentReturns, hnear]

/-- The allowance that a control pass brings, before the valves move (R61). -/
def State.passed (s : State) : State :=
  State.recompute
    { s with demand := { passTimer := some Config.passPeriod, record := controlPass s.passInputs s.demand.record } }

/-- A control pass, its valves written out (R141, R142). -/
theorem State.pass_eq (s : State) :
    s.pass = { s.passed with output := { s.passed.output with
      coolantPos := if s.isRunning then s.passed.output.coolantTarget else s.passed.output.coolantPos
      evapPos := match s.interlock.frost with
        | .frost => 0
        | .clear => slew 50 s.passed.output.evapTarget s.passed.output.evapPos } } := by
  rw [State.pass, Output.passValves_eq]
  rfl

theorem State.passed_positions (s : State) :
    s.passed.output.evapPos = s.output.evapPos ∧ s.passed.output.coolantPos = s.output.coolantPos := by
  let v : State :=
    State.reckon { s with demand := { passTimer := some Config.passPeriod, record := controlPass s.passInputs s.demand.record } }
  have h := Output.keepsPositions_takeStageTarget v.own v.stageTarget (v.output.takeFlow v.flowTargets)
  exact ⟨(congrArg Output.evapPos h :), (congrArg Output.coolantPos h :)⟩

/-- Settles O46: the record from its inputs, the allowance it brings, then the valves. -/
theorem controlPassHandedOn : Obligations.ControlPassHandedOn := by
  intro left s ht u near inputs
  have hinputs : u.passInputs = inputs := u.passInputs_eq
  clear_value inputs
  subst hinputs
  have hpass := u.pass_eq
  have htakes : u.passed.TakesTargets u.output := State.takeTargets_takes _
  have htaken : u.passed.TargetsTaken := State.takeTargets_taken _
  obtain ⟨hevap, hcoolant⟩ := u.passed_positions
  have hclear : s.interlock.frost = .clear →
      u.pass.output.evapPos = slew 50 u.passed.output.evapTarget u.output.evapPos := fun hf => by
    rw [hpass]
    dsimp only
    rw [show u.interlock.frost = .clear from hf, hevap]
  have htarget : u.pass.output.evapTarget = u.passed.output.evapTarget := by rw [hpass]
  refine ⟨u.pass.watch s, State.expires ht _ s, ?_, ?_, ⟨?_, fun hf => ?_, fun hf hle => ?_, fun hf hlt => ?_, ?_⟩,
    State.upkept_of_link (by rw [hpass]; rfl) s⟩
  · rw [hpass]
    rfl
  · rw [hpass]
    exact State.recompute_reckons _
  · have hwith : ∀ (k : Output) (evap coolant : Nat), u.passed.output = k →
        ({ u.passed.output with evapPos := evap, coolantPos := coolant } : Output)
          = { k with evapPos := evap, coolantPos := coolant } := by
      rintro k evap coolant rfl
      rfl
    rw [hpass]
    exact hwith _ _ _ htakes
  · rw [State.watch_output, hpass]
    dsimp only
    rw [show u.interlock.frost = .frost from hf]
  · rw [State.watch_output, htarget] at hle ⊢
    rw [hclear hf, slew, if_pos hle]
    omega
  · rw [State.watch_output, htarget] at hlt ⊢
    rw [hclear hf, slew, if_neg (by omega)]
    omega
  · rw [State.watch_output, hpass]
    dsimp only
    have hrunning : u.isRunning = true ↔ s.control.state = .running := beq_iff_eq
    by_cases hrun : s.control.state = .running
    · obtain ⟨-, -, -, hset, -⟩ := htaken
      rw [State.flowTargets, show u.passed.control.state = .running from hrun] at hset
      rw [if_pos hrun, if_pos (hrunning.mpr hrun), hset]
      rfl
    · rw [if_neg hrun, if_neg fun h => hrun (hrunning.mp h), hcoolant]

end Sys2Proof.Machine
end

section
/-! The service requests that act: TEST_OUTPUT, RESTART, END_TEST and CLEAR_LOCK, and the answer BUSY (section 9.5). -/

namespace Sys2Proof.Machine

/-- A request that the station judges: the message ends, then the request's effect and the watch (R27, R172). -/
theorem State.judges {target : Fin 32} {s : State} (hj : s.Judges target) (kind : RequestKind) (f : State → State) :
    (.next (s.onRequest kind target f) : Host.Outcome State Fault Refusal) = .next ((f s.hears).watch s) := by
  rw [State.onRequest_of_judges kind f hj]

/-! ## BUSY -/

theorem Link.answeredFrom (r : Reply) (l : Link) : l.AnsweredFrom r (l.answer r) := by
  rw [Link.answer_eq]
  exact ⟨rfl, rfl⟩

/-- An answer BUSY leaves a sound station, a pending restart's mark apart. -/
theorem State.Sound.busy_unpending {s : State} (hs : s.Sound) (ha : s.awake = true) (hl : s.link.line ≠ .unread)
    (kind : RequestKind) : (s.hears.reply kind .busy []).unpending.Sound := by
  have hheard := (hs.hears (by simp [State.attentive, ha, hl])).unpending
  obtain ⟨hfit, hcurrent⟩ := (State.sound_iff _).mp hheard
  exact (State.sound_iff _).mpr ⟨hfit.reply ha rfl [], State.reply_current hcurrent _ _ _⟩

/-- Settles O42: the answer, then the restart where it replaces the OK reply. -/
theorem requestsAnsweredBusy : Obligations.RequestsAnsweredBusy := by
  intro c kind target s ha hl hq ht hb
  obtain ⟨f, hf⟩ := exec_of_request hq
  refine ⟨s.hears.reply kind .busy [], _, (hf s).trans (congrArg _ (State.onRequest_of_busy kind f ha hl ht hb)), rfl,
    Link.answeredFrom _ _, fun hstay => State.settleRestart_of_not_due (Bool.eq_false_iff.mpr fun hdue => ?_),
    fun hs => State.settlesRestart (hs.busy_unpending ha hl kind)⟩
  obtain ⟨hp, hok⟩ := (State.restartDue_iff _).mp hdue
  obtain h | h := hstay
  · exact absurd (h.symm.trans hp) (by decide)
  · exact absurd (hok.symm.trans h) (by decide)

/-! ## RESTART, END_TEST and CLEAR_LOCK -/

theorem State.restartRequest_of_starting {s : State} (h : s.control.state = .starting) :
    s.restartRequest = s.reply .restart .refused [] := by
  unfold State.restartRequest
  rw [h]

theorem State.restartRequest_of_not_starting {s : State} (h : s.control.state ≠ .starting) :
    s.restartRequest = State.reply .restart .ok [] { s with control := { s.control with restartPending := true } } := by
  unfold State.restartRequest
  cases hs : s.control.state with
  | starting => exact absurd hs h
  | running | standby | test => rfl

theorem State.endTestRequest_of_not_test {s : State} (h : s.control.state ≠ .test) :
    s.endTestRequest = s.reply .endTest .refused [] := by
  unfold State.endTestRequest
  cases hs : s.control.state with
  | test => exact absurd hs h
  | running | standby | starting => rfl

theorem State.clearLockRequest_of_locked {s : State} (h : s.interlock.trip = .locked) :
    s.clearLockRequest = (s.protect (Interlock.clearLock s.pins.contactOpen)).reply .clearLock .ok [] := by
  unfold State.clearLockRequest
  rw [h]

theorem State.clearLockRequest_of_not_locked {s : State} (h : s.interlock.trip ≠ .locked) :
    s.clearLockRequest = s.reply .clearLock .refused [] := by
  unfold State.clearLockRequest
  cases hs : s.interlock.trip with
  | locked => exact absurd hs h
  | normal | tripped | cooldown => rfl

/-- Settles O45: each request accepted or refused by its state. -/
theorem restartAndClearLockAnswered : Obligations.RestartAndClearLockAnswered := by
  refine fun target s hj => ⟨?_, fun hst => ?_, fun hlock => ?_, fun hs hlock => ?_⟩
  · refine ⟨_, State.judges hj _ _, ?_⟩
    by_cases hst : s.control.state = .starting
    · rw [if_pos hst, State.restartRequest_of_starting (s := s.hears) hst]
      exact ⟨rfl, State.answeredFrom rfl s⟩
    · rw [if_neg hst, State.restartRequest_of_not_starting (s := s.hears) hst]
      exact ⟨rfl, State.answeredFrom rfl s⟩
  · refine ⟨_, State.judges hj _ _, ?_⟩
    rw [State.endTestRequest_of_not_test (s := s.hears) hst]
    exact ⟨rfl, State.answeredFrom rfl s⟩
  · refine ⟨_, State.judges hj _ _, ?_⟩
    rw [State.clearLockRequest_of_not_locked (s := s.hears) hlock]
    exact ⟨rfl, State.answeredFrom rfl s⟩
  · have hframe := State.protect_frame (Interlock.clearLock s.pins.contactOpen) s.hears
    have hhands : s.hears.HandsCeiling (s.hears.protect (Interlock.clearLock s.pins.contactOpen)) := State.protect_hands rfl
    refine ⟨_, State.judges hj _ _, ?_⟩
    rw [State.clearLockRequest_of_locked (s := s.hears) hlock, show s.hears.pins.contactOpen = s.pins.contactOpen from rfl]
    generalize s.hears.protect (Interlock.clearLock s.pins.contactOpen) = t at hframe hhands ⊢
    refine ⟨?_, hhands, State.answeredFrom (by rw [hframe]; rfl) s⟩
    rw [hframe]
    rfl

/-! ## TEST_OUTPUT -/

/-- The arguments that name an output a station of so many stages has (R172, R174, 10.1). -/
theorem testOutputOf_fitted (stages a : Nat) :
    (∃ o, testOutputOf a = some o ∧ o.fitted stages = true) ↔ 1 ≤ a ∧ a ≤ 4 + stages ∧ a ≤ 7 := by
  unfold testOutputOf
  split
  case h_8 =>
    simp only [imp_false] at *
    simp
    omega
  all_goals simp [TestOutput.fitted] <;> omega

/-- A test setting made, by the argument that names its output (R174). -/
theorem TestSettings.make_eq {a : Nat} {o : TestOutput} (h : testOutputOf a = some o) (v : Nat) (t : TestSettings) :
    t.make o v =
      { fan := if a = 1 then v else t.fan, evap := if a = 2 then v else t.evap
        coolant := if a = 3 then v else t.coolant, damper := if a = 4 then v else t.damper
        stages := if 5 ≤ a then (if v = 0 then a - 5 else a - 4) else t.stages } := by
  have hpositive : (0 < v) = ¬v = 0 := propext (by omega)
  unfold testOutputOf at h
  split at h <;> cases h <;> simp [TestSettings.make, hpositive]

/-- The sequencer does not turn on the coolant position, nor move it. -/
theorem Output.settle_withCoolant (own c : Nat) (o : Output) :
    Output.settle own { o with coolantPos := c } = { o.settle own with coolantPos := c } := by
  obtain ⟨hd, he⟩ | ⟨hd, ht, he⟩ | ⟨hd, ht, hm, he⟩ | ⟨hd, ht, hm, he⟩ := Output.settle_cases own o <;> rw [he]
  · exact Output.settle_of_stepping (o := { o with coolantPos := c }) hd
  · exact Output.settle_of_above (o := { o with coolantPos := c }) hd ht
  · exact Output.settle_of_allowed (o := { o with coolantPos := c }) hd ht hm
  · exact Output.settle_of_resting (o := { o with coolantPos := c }) hd ht hm

theorem Output.takeStageTarget_withCoolant (own target c : Nat) (o : Output) :
    Output.takeStageTarget own target { o with coolantPos := c }
      = { o.takeStageTarget own target with coolantPos := c } := by
  unfold Output.takeStageTarget
  split_ifs
  · rfl
  · exact Output.settle_withCoolant own c { o with stageTarget := target }

/-- A setting made in TEST takes effect at once, the coolant valve with it (R123, R142, R146). -/
theorem State.makeSetting_written {s : State} (hs : s.control.state = .test) (output : TestOutput) (value : Nat) :
    let made := s.output.settings.make output value
    let t := s.makeSetting output value
    t = { s with output := t.output } ∧ t.output.settings = made ∧ t.TargetsTaken ∧ t.output.coolantPos = made.coolant
    ∧ t.TakesTargets { s.output with settings := made, coolantPos := made.coolant } := by
  intro made t
  let v : State := { s with output := { s.output with settings := made } }
  have hflow : v.flowTargets = { fan := made.fan, evap := made.evap, coolant := made.coolant, damper := made.damper } := by
    rw [State.flowTargets, show v.control.state = .test from hs]
  have htaken := v.takeTargets_taken
  have htakes := v.takeTargets_takes
  have hsettings : v.takeTargets.output.settings = made :=
    (congrArg Output.settings
      (Output.keepsPositions_takeStageTarget v.own v.stageTarget (v.output.takeFlow v.flowTargets)) :)
  have hcoolant : v.takeTargets.output.coolantTarget = made.coolant := by
    obtain ⟨-, -, -, h, -⟩ := htaken
    rw [h, State.takeTargets_flowTargets, hflow]
  have ht : t = { v.takeTargets with output := { v.takeTargets.output with coolantPos := made.coolant } } := by
    rw [← hcoolant]
    rfl
  refine ⟨rfl, ?_, ?_, ?_, ?_⟩
  · rw [ht]
    exact hsettings
  · rw [ht]
    exact htaken
  · rw [ht]
  · rw [ht]
    exact (congrArg (fun o : Output => { o with coolantPos := made.coolant }) htakes).trans
      (Output.takeStageTarget_withCoolant _ _ _ _).symm

/-- TEST as TEST_OUTPUT finds or enters it, before its setting is made (R174). -/
def State.tested (s : State) : State :=
  if s.control.state = .test then { s with control := { s.control with test := some Config.testTime } } else s.enterTest

theorem State.tested_eq (s : State) :
    s.tested =
      { s with
        control := { s.control with state := .test, test := some 120000 }
        demand := if s.control.state = .test then s.demand else { s.demand with passTimer := some 1000 }
        output := { s.output with
          settings := if s.control.state = .test then s.output.settings
            else { fan := 0, evap := 0, coolant := 0, damper := 0, stages := 0 } } } := by
  unfold State.tested
  split_ifs with h
  · rw [← h]
    rfl
  · rfl

theorem State.testRequest_taken {s : State} {a : Nat} {o : TestOutput} (ho : testOutputOf a = some o)
    (hf : o.fitted s.cfg.stages = true) (hs : s.control.state = .test ∨ s.control.state = .standby) (v : Nat) :
    s.testRequest a v = (s.tested.makeSetting o v).reply .testOutput .ok [] := by
  unfold State.testRequest State.testFitted State.tested
  rw [ho]
  dsimp only
  rw [if_pos hf]
  obtain h | h := hs <;> rw [h] <;> rfl

theorem State.testRequest_refused {s : State} {a : Nat}
    (h : ¬((∃ o, testOutputOf a = some o ∧ o.fitted s.cfg.stages = true)
      ∧ (s.control.state = .test ∨ s.control.state = .standby))) (v : Nat) :
    s.testRequest a v = s.reply .testOutput .refused [] := by
  unfold State.testRequest
  cases ho : testOutputOf a with
  | none => rfl
  | some o =>
    dsimp only
    split_ifs with hf
    · unfold State.testFitted
      cases hs : s.control.state with
      | test => exact absurd ⟨⟨o, ho, hf⟩, .inl hs⟩ h
      | standby => exact absurd ⟨⟨o, ho, hf⟩, .inr hs⟩ h
      | starting | running => rfl
    · rfl

/-- Settles O44: the arguments that name an output, and the setting made in TEST as found or entered. -/
theorem testOutputMakesSetting : Obligations.TestOutputMakesSetting := by
  intro target argument value s hj
  dsimp only
  refine ⟨_, State.judges hj _ _, ?_⟩
  by_cases htaken : (1 ≤ argument.toNat ∧ argument.toNat ≤ 4 + s.cfg.stages ∧ argument.toNat ≤ 7)
      ∧ (s.control.state = .test ∨ s.control.state = .standby)
  · obtain ⟨o, ho, hf⟩ := (testOutputOf_fitted _ _).mpr htaken.1
    rw [State.testRequest_taken (s := s.hears) ho hf htaken.2]
    have hwritten := State.makeSetting_written (s := s.hears.tested) (by rw [State.tested_eq]) o (settingOf value)
    generalize s.hears.tested.makeSetting o (settingOf value) = t at hwritten ⊢
    rw [TestSettings.make_eq ho, State.tested_eq] at hwritten
    obtain ⟨hframe, hsettings, htargets, hcoolant, htakes⟩ := hwritten
    refine ⟨?_, fun h => absurd htaken h, fun _ => ⟨?_, ?_, hsettings, htargets, hcoolant, htakes, ?_⟩⟩
    · rw [hframe]
      rfl
    · rw [hframe]
      rfl
    · rw [hframe]
      rfl
    · exact State.answeredFrom (by rw [hframe]; rfl) s
  · rw [State.testRequest_refused (s := s.hears) (fun h => htaken ⟨(testOutputOf_fitted _ _).mp h.1, h.2⟩)]
    exact ⟨rfl, fun _ => ⟨rfl, State.answeredFrom rfl s⟩, fun h => absurd h htaken⟩

end Sys2Proof.Machine
end

section
/-! What the station does of its own accord: the events that fall due, and the step on an empty queue (log 1, 3, 5, 37). -/

namespace Sys2Proof.Machine

/-! ## The due events -/

theorem mem_whenDue {t : Timer} {event c : Instr} : c ∈ whenDue t event ↔ t = some 0 ∧ c = event := by
  unfold whenDue
  split
  · simp
  · simp
  · simp

theorem mem_whenHolds {b : Bool} {event c : Instr} : c ∈ whenHolds b event ↔ b = true ∧ c = event := by
  cases b
  · simp [whenHolds]
  · simp [whenHolds]

theorem mem_entryDue {cfg : Settings} {e : Entry} {c : Instr} :
    c ∈ entryDue cfg e ↔
      (c = .entryStale e.number ∧ e.state = .live ∧ 3 * cfg.period ≤ e.age)
      ∨ (c = .entryLost e.number ∧ e.state = .stale ∧ 12 * cfg.period ≤ e.age) := by
  unfold entryDue
  split
  · next h => rw [mem_whenHolds, decide_eq_true_iff]; simp [h, staleAge, and_comm]
  · next h => rw [mem_whenHolds, decide_eq_true_iff]; simp [h, lostAge, and_comm]
  · next h => simp [h]

/-- An attempt can begin where the line is idle, none is in progress, and a slot that may be sent is filled (R20). -/
theorem Link.ready_isSome (mayReport : Bool) (l : Link) :
    (l.ready mayReport).isSome = true ↔
      l.line = .idle ∧ l.attempt = none ∧ (l.replySlot.isSome ∨ (l.reportSlot.isSome ∧ mayReport = true)) := by
  by_cases hfree : l.line = .idle ∧ l.attempt = none
  · rw [Link.ready_of_idle _ hfree.1 hfree.2]
    unfold Link.nextContent
    cases mayReport <;> cases l.reportSlot <;> cases l.replySlot <;> simp [hfree]
  · rw [Link.ready_of_busy (by
      by_cases hl : l.line = .idle
      · exact .inr (Option.isSome_iff_ne_none.mpr fun ha => hfree ⟨hl, ha⟩)
      · exact .inl hl)]
    simp only [Option.isSome_none, Bool.false_eq_true, false_iff]
    exact fun ⟨hl, ha, _⟩ => hfree ⟨hl, ha⟩

/-- The content of an attempt that can begin is a report exactly where one may be sent from its slot (R29). -/
theorem Link.ready_report (mayReport : Bool) (l : Link) :
    (∃ r, l.ready mayReport = some (.report r)) ↔
      l.line = .idle ∧ l.attempt = none ∧ l.reportSlot.isSome ∧ mayReport = true := by
  unfold Link.ready
  split
  · next hl ha =>
    unfold Link.nextContent
    cases mayReport <;> cases l.reportSlot <;> cases l.replySlot <;> simp [hl, ha]
  · next h =>
    simp only [reduceCtorEq, exists_false, false_iff]
    exact fun ⟨hl, ha, _⟩ => h hl ha

theorem FanProof.left_zero (p : FanProof) : p.left = some 0 ↔ ∃ ms, p = .counting ms ∧ 5000 ≤ ms := by
  cases p with
  | counting ms => simp [FanProof.left, Config.fanProofTime, Nat.sub_eq_zero_iff_le]
  | idle | proven => simp [FanProof.left]

theorem Interlock.ageOutIn_zero (i : Interlock) :
    i.ageOutIn = some 0 ↔ i.tripList.head?.any (1800000 ≤ ·) = true := by
  unfold Interlock.ageOutIn
  cases i.tripList with
  | nil => simp
  | cons age _ => simp [Config.tripMemory, Nat.sub_eq_zero_iff_le]

theorem Link.periodicIn_zero (cfg : Settings) (state : StationState) (l : Link) :
    l.periodicIn cfg state = some 0 ↔
      (if l.sinceDiscard.isSome then l.sinceDiscard else l.sinceReport).any
        ((if state = .standby then 4 * cfg.period else cfg.period) ≤ ·) = true := by
  rw [Link.periodicIn_eq]
  cases (if l.sinceDiscard.isSome then l.sinceDiscard else l.sinceReport) with
  | none => simp
  | some t => simp [Nat.sub_eq_zero_iff_le]

/-- The link controller's due events. -/
theorem State.mem_linkDue {s : State} {c : Instr} :
    c ∈ s.linkDue ↔
      ((s.awake = true ∧ (s.link.ready s.reports).isSome = true) ∧ c = .attemptBegin)
      ∨ (s.link.firstIn = some 0 ∧ c = .firstReportDue) ∨ (s.link.earlyIn = some 0 ∧ c = .earlyReportDue)
      ∨ ((s.reports = true ∧ s.link.reportSlot = none) ∧ s.link.periodicIn s.cfg s.control.state = some 0
        ∧ c = .reportDue) := by
  simp only [State.linkDue, List.mem_append, List.mem_ite_nil_right, mem_whenDue, mem_whenHolds, Bool.and_eq_true,
    Option.isNone_iff_eq_none, or_assoc]

/-- An event is due exactly where it falls due. -/
theorem State.mem_due {s : State} (h : s.restartDue = false) (c : Instr) : c ∈ s.due ↔ s.fallsDue c = true := by
  simp only [State.due, h, Bool.false_eq_true, if_false, List.mem_append, List.mem_flatMap, mem_whenDue, mem_entryDue,
    State.mem_linkDue, Link.ready_isSome, FanProof.left_zero, Interlock.ageOutIn_zero, Link.periodicIn_zero,
    State.reports_iff]
  cases c
  case configurationReadEnd bytes => simp [State.fallsDue, and_comm]
  case entryStale n => simp [State.fallsDue, and_assoc, @eq_comm _ n]
  case entryLost n => simp [State.fallsDue, and_assoc, @eq_comm _ n]
  case modeTimerExpiry mode => cases mode <;> simp [State.fallsDue]
  case fanProven =>
    simp only [reduceCtorEq, and_false, and_true, or_false, false_or, State.fallsDue]
    cases s.output.proof <;> simp
  all_goals simp [State.fallsDue]

/-! ## The step on an empty queue -/

theorem State.fallsDue_attemptBegin (s : State) :
    s.fallsDue .attemptBegin = true ↔
      s.awake = true ∧ s.link.line = .idle ∧ s.link.attempt = none
        ∧ (s.link.replySlot.isSome ∨ (s.link.reportSlot.isSome ∧ s.control.state ≠ .starting)) := by
  simp [State.fallsDue]

/-- The first report after a beginning goes before a control pass (R78; log 37). -/
theorem State.firstReportGoes_of {s : State}
    (h : s.link.firstIn = some 0
      ∨ (s.fallsDue .attemptBegin = true ∧ s.control.state ≠ .starting ∧ s.link.reportSlot.isSome
        ∧ s.link.sinceReport = none ∧ s.link.sinceDiscard = none)) :
    s.firstReportGoes = true := by
  unfold State.firstReportGoes
  rw [Bool.or_eq_true]
  obtain h | ⟨hbegin, hst, hslot, hr, hd⟩ := h
  · exact .inl (beq_iff_eq.mpr h)
  · obtain ⟨ha, hl, hnone, -⟩ := (State.fallsDue_attemptBegin s).mp hbegin
    obtain ⟨r, hready⟩ := (Link.ready_report s.reports s.link).mpr ⟨hl, hnone, hslot, s.reports_iff.mpr hst⟩
    rw [hready, hr, hd]
    exact .inr ha

theorem chosen_mem (n : Nat) (first : Instr) (others : List Instr) : chosen n first others ∈ first :: others := by
  unfold chosen
  split
  · exact List.mem_singleton_self _
  · next c rest =>
    rw [List.getD_eq_getElem _ _ (by
      have := Nat.mod_lt (Config.tieChoice n) (Nat.succ_pos (c :: rest).length)
      simpa using this)]
    exact List.getElem_mem _

theorem step_of_empty {s : State} (hp : s.pending = []) : step s = .next s.idleStep := by
  unfold step
  rw [hp]

theorem State.idleStep_of_due {s : State} {first : Instr} {others : List Instr} (h : s.next = first :: others) :
    s.idleStep = { s with ties := s.ties + 1, pending := s.pending ++ [chosen s.ties first others] } := by
  unfold State.idleStep
  rw [h]

theorem State.idleStep_of_silent {s : State} (h : s.due = []) (hw : s.wire = []) : s.idleStep = s.elapse 1 := by
  unfold State.idleStep
  rw [(State.next_eq_nil_iff s).mpr h, hw]

theorem State.idleStep_of_level {s : State} (h : s.due = []) {level : Bool} {levels : List Bool}
    (hw : s.wire = level :: levels) : s.idleStep = State.readLevel level { s with wire := levels } := by
  unfold State.idleStep
  rw [(State.next_eq_nil_iff s).mpr h, hw]

/-- Settles O2: the due events one by one, and the three cases of a step on an empty queue. -/
theorem emptyQueueWaitsOrQueuesDueEvent : Obligations.EmptyQueueWaitsOrQueuesDueEvent := by
  intro s
  refine ⟨State.mem_due, fun hp hdue => ?_, fun hp hdue hw => ?_, fun hp hdue level levels hw => ?_⟩
  · obtain ⟨first, others, hnext⟩ := List.exists_cons_of_ne_nil (mt (State.next_eq_nil_iff s).mp hdue)
    have hmem : chosen s.ties first others ∈ s.next := hnext ▸ chosen_mem _ _ _
    refine ⟨_, State.mem_due_of_mem_next hmem, fun hfirst heq => ?_, ?_⟩
    · exact State.controlPass_not_mem_next (State.firstReportGoes_of hfirst) (heq ▸ hmem)
    · rw [step_of_empty hp, State.idleStep_of_due hnext, hp]
      rfl
  · rw [step_of_empty hp, State.idleStep_of_silent hdue hw]
  · rw [step_of_empty hp, State.idleStep_of_level hdue hw]
    have hu : State.bitTime { s with wire := levels }
        = if s.micros < 984 then { s with wire := levels, micros := s.micros + 16 }
          else { s.elapse 1 with wire := levels, micros := s.micros - 984 } := State.bitTime_eq _
    have hown : (State.bitTime { s with wire := levels }).own = s.own := by
      rw [hu]
      split_ifs <;> rfl
    have hawake : (State.bitTime { s with wire := levels }).awake = s.awake := by
      rw [hu]
      split_ifs <;> rfl
    have hpending : (State.bitTime { s with wire := levels }).pending = [] := by
      rw [hu]
      split_ifs
      · exact hp
      · exact hp
    dsimp only
    unfold State.readLevel
    rw [← hu]
    dsimp only
    rw [hown, hawake, hpending]
    rfl

end Sys2Proof.Machine
end

section
/-! The passing of time, the filter and the outside temperature selected (log 38). -/

namespace Sys2Proof.Machine

/-! ## The passing of time -/

/-- What grows to a limit and is within it is held at the limit. -/
theorem grown_within {age limit : Nat} (h : age ≤ limit) (ms : Nat) :
    max age (min (age + ms) limit) = min (age + ms) limit := by
  omega

theorem ageTable_of_within {cfg : Settings} {table : List Entry} (h : ∀ e ∈ table, e.age ≤ 12 * cfg.period) (ms : Nat) :
    ageTable cfg ms table = table.map fun e => { e with age := min (e.age + ms) (12 * cfg.period) } :=
  List.map_congr_left fun e he => congrArg (fun age => { e with age := age }) (grown_within (h e he) ms)

theorem ageTrips_of_within {ages : List Nat} (h : ∀ age ∈ ages, age ≤ 1800000) (ms : Nat) :
    ageTrips ms ages = ages.map fun age => min (age + ms) 1800000 :=
  List.map_congr_left fun age ha => grown_within (h age ha) ms

/-- Settles O3: the ages and counts of a sound station are within their limits, at which time holds them. -/
theorem timePasses : Obligations.TimePasses := by
  intro ms s hs
  dsimp only
  obtain ⟨-, -, -, -, ⟨-, hentries, -⟩, -, -, -, ⟨-, -, ⟨-, hcounted⟩, -⟩, ⟨-, -, -, -, -, htrips, -⟩⟩ := hs
  have htable : ∀ e ∈ s.peers.table, e.age ≤ 12 * s.cfg.period := by
    intro e he
    obtain ⟨-, -, -, hage, -⟩ := hentries e he
    exact hage
  have hproof : s.output.proof.after ms = match s.output.proof with
      | .counting counted => .counting (min (counted + ms) 5000)
      | .idle => .idle
      | .proven => .proven := by
    cases hp : s.output.proof with
    | idle | proven => rfl
    | counting counted =>
      rw [hp] at hcounted
      exact congrArg FanProof.counting (grown_within hcounted ms)
  unfold State.elapse Peers.after Output.after Interlock.after
  rw [ageTable_of_within htable, ageTrips_of_within htrips, hproof]
  rfl

/-! ## The filter -/

theorem filterStep_of_pos {gap : Int} (h : 0 < gap) : filterStep gap = max 1 (gap / 8) := by
  unfold filterStep
  rw [Int.tdiv_eq_ediv_of_nonneg h.le, Int.sign_eq_one_of_pos h]
  omega

theorem filterStep_neg (gap : Int) : filterStep (-gap) = -filterStep gap := by
  unfold filterStep
  rw [Int.neg_tdiv, Int.sign_neg]
  split_ifs <;> omega

/-! ## The outside temperature -/

theorem median_eq_none (ts : List Int) : median ts = none ↔ ts = [] := by
  unfold median
  rw [List.getElem?_eq_none_iff, List.length_insertionSort, ← List.length_eq_zero_iff]
  omega

/-- The outside temperature of the station's own sensor, where it has one that is usable (R14). -/
theorem ownOutside_eq (fitted : Bool) (x : Sensing) :
    (if fitted = true then x.fresh.usable else none)
      = if fitted = true ∧ x.fresh.state = .good ∧ x.fresh.filtered.isSome then x.fresh.filtered else none := by
  rw [usable_eq]
  cases fitted <;> cases x.fresh.state <;> cases x.fresh.filtered <;> rfl

/-- Settles O8: the filter's step on either side of the gap, and the selection by what is at hand. -/
theorem filterAndOutsideSelection : Obligations.FilterAndOutsideSelection := by
  refine ⟨rfl, fun t => rfl, fun v t => ?_, fun fitted table x => ?_⟩
  · dsimp only
    rw [show filtered (some v) t = v + filterStep (t - v) from rfl]
    refine ⟨fun h => ?_, fun h => ?_, fun h => ?_⟩
    · subst h
      rw [sub_self]
      exact add_zero v
    · rw [filterStep_of_pos (by omega)]
      omega
    · rw [← neg_sub v t, filterStep_neg, filterStep_of_pos (by omega)]
      omega
  · dsimp only
    unfold selectOutside
    rw [ownOutside_eq]
    by_cases hown : fitted = true ∧ x.fresh.state = .good ∧ x.fresh.filtered.isSome
    · obtain ⟨t, ht⟩ := Option.isSome_iff_exists.mp hown.2.2
      rw [if_pos hown]
      rw [ht] at hown ⊢
      exact ⟨rfl, fun _ => ⟨rfl, rfl, rfl⟩, fun h => absurd hown h, fun h => absurd hown h, fun h => absurd hown h⟩
    rw [if_neg hown]
    cases hm : median (outsideHeard table) with
    | some t =>
      have hne : outsideHeard table ≠ [] := fun h => by simp [(median_eq_none _).mpr h] at hm
      exact ⟨rfl, fun h => absurd h hown, fun _ _ => ⟨rfl, rfl, rfl⟩, fun _ h => absurd h hne, fun _ h => absurd h hne⟩
    | none =>
      have hempty := (median_eq_none _).mp hm
      dsimp only
      cases hsel : x.selected
      · exact ⟨rfl, fun h => absurd h hown, fun _ h => absurd hempty h, fun _ _ h => absurd h (by decide),
          fun _ _ _ => ⟨rfl, rfl, rfl⟩⟩
      · exact ⟨rfl, fun h => absurd h hown, fun _ h => absurd hempty h, fun _ _ _ => ⟨rfl, rfl, rfl⟩,
          fun _ _ h => absurd h (by decide)⟩

end Sys2Proof.Machine
end

section
/-! Messages as bytes: what is written is read back, and what is accepted is one of R26's table (10.1, R25, R26). -/

namespace Sys2Proof.Machine

/-! ## Keys and codes -/

/-- The class and the source of a priority key (section 2.2). -/
theorem priorityKey_toNat {c source : Nat} (hc : c < 8) (hs : source < 32) :
    (priorityKey c source).toNat = c * 32 + source := by
  rw [priorityKey, BitVec.toNat_ofNat]
  omega

theorem modeOfLevel_level (m : Mode) : modeOfLevel m.level = some m := by
  cases m <;> rfl

theorem panelModeOf_code (m : PanelMode) : panelModeOf m.code = some m := by
  cases m <;> rfl

theorem postConditionOf_code (c : PostCondition) : postConditionOf c.code = some c := by
  cases c <;> rfl

theorem postActionOf_code (a : PostAction) : postActionOf a.code = some a := by
  cases a <;> rfl

theorem reportedStateOf_code (st : ReportedState) : reportedStateOf st.code = some st := by
  cases st <;> rfl

theorem flagOf_bit (b : Bool) : flagOf (BitVec.ofNat 8 (bit b)) = some b := by
  cases b <;> rfl

/-! ## The REPORT body -/

theorem flagSetOf_word (f : FlagSet) : flagSetOf f.word = f := by
  simp only [flagSetOf, FlagSet.word, BitVec.getLsbD_ofBoolListLE]
  rfl

/-- A presence mark and the value it speaks of give back the value (10.1). -/
theorem presence_eq (w : Option Word) : (if w.isSome = true then some (w.getD 0#16) else none) = w := by
  cases w <;> rfl

theorem reportBodyOf_bytes (r : ReportBody) : reportBodyOf r.bytes = some r := by
  have hlevel : (BitVec.ofNat 8 r.level.level).toNat = r.level.level := by cases r.level <;> rfl
  have hmarks : ∀ k, r.marks.getLsbD k
      = [r.priority, r.door, r.ret.isSome, r.outside.isSome, false, false, false, false].getD k false := fun k => by
    rw [ReportBody.marks, BitVec.getLsbD_ofBoolListLE]
  simp only [reportBodyOf, ReportBody.bytes, wordBytes, List.cons_append, List.nil_append, reportedStateOf_code, hlevel,
    modeOfLevel_level, hmarks, List.getD_cons_zero, List.getD_cons_succ, wordOf_wordBytes, presence_eq, flagSetOf_word]

theorem reportBodyOf_length {bytes : List Byte} {r : ReportBody} (h : reportBodyOf bytes = some r) :
    bytes.length = 13 := by
  unfold reportBodyOf at h
  split at h
  · rfl
  · cases h

theorem ReportBody.bytes_length (r : ReportBody) : r.bytes.length = 13 := rfl

/-! ## Reading what was written -/

theorem decodeMessage_withCheck (key : Byte) (body : List Byte) :
    decodeMessage (withCheck (key :: body)) = decodeBody (key.toNat / 32) (key.toNat % 32) body := by
  unfold decodeMessage
  rw [checked_withCheck]

/-- A whole message is read by its class, its source and its body (R26). -/
theorem decodeMessage_key {c source : Nat} (hc : c < 8) (hs : source < 32) (body : List Byte) :
    decodeMessage (withCheck (priorityKey c source :: body)) = decodeBody c source body := by
  rw [decodeMessage_withCheck, priorityKey_toNat hc hs]
  congr 1 <;> omega

theorem assigned_lt {n : Nat} (h : assigned n = true) : n < 32 := by
  simp [assigned] at h
  omega

theorem isZone_iff (n : Nat) : isZone n = true ↔ 1 ≤ n ∧ n ≤ 16 := by
  simp [isZone]

theorem decodeBody_request (t k a v1 v2 : Byte) :
    decodeBody 6 30 [t, k, a, v1, v2]
      = if h : t.toNat < 32 then requestOf k.toNat ⟨t.toNat, h⟩ a (wordOf v1 v2) else none :=
  rfl

/-- A SERVICE REQUEST is read as the command of its code (10.1). -/
theorem decodeMessage_requestBytes {code : Nat} (hcode : code < 256) (target : Fin 32) (argument : Byte) (value : Word) :
    decodeMessage (withCheck (requestBytes code target argument value)) = requestOf code target argument value := by
  have ht : (BitVec.ofNat 8 target.val).toNat = target.val := by
    rw [BitVec.toNat_ofNat]
    omega
  have hk : (BitVec.ofNat 8 code).toNat = code := by
    rw [BitVec.toNat_ofNat]
    omega
  refine (decodeMessage_key (by decide) (by decide) _).trans ?_
  refine (decodeBody_request _ _ _ _ _).trans ?_
  rw [wordOf_wordBytes, hk, dif_pos (by omega)]
  exact congrArg (requestOf code · argument value) (Fin.ext ht)

/-- A well-formed command's message, with its check, is read as that command (R25, R26). -/
theorem decodeMessage_encode {i : Instr} {bytes : List Byte} (hwf : i.wf = true) (h : encodeMessage i = some bytes) :
    decodeMessage bytes = some i := by
  unfold encodeMessage at h
  cases i
  case overloadArrival =>
    cases h
    exact decodeMessage_key (by decide) (by decide) _
  case postArrival source condition action target =>
    cases h
    obtain ⟨hsource, htarget⟩ : assigned source = true ∧ target ≤ 16 := by simpa [Instr.wf] using hwf
    have ht : (BitVec.ofNat 8 target).toNat = target := by
      rw [BitVec.toNat_ofNat]
      omega
    rw [decodeMessage_key (by decide) (assigned_lt hsource)]
    simp [decodeBody, postConditionOf_code, postActionOf_code, hsource, ht, htarget]
  case budgetArrival units =>
    cases h
    refine (decodeMessage_key (by decide) (by decide) _).trans ?_
    simp [decodeBody, wordBytes, wordOf_wordBytes]
  case plantArrival capacity coolant fault =>
    cases h
    refine (decodeMessage_key (by decide) (by decide) _).trans ?_
    simp [decodeBody, wordBytes, flagOf_bit, wordOf_wordBytes]
  case panelArrival mode setpoint =>
    cases h
    refine (decodeMessage_key (by decide) (by decide) _).trans ?_
    simp [decodeBody, wordBytes, panelModeOf_code, wordOf_wordBytes]
  case reportArrival source body =>
    cases h
    have hsource : isZone source = true := hwf
    obtain ⟨-, hle⟩ := (isZone_iff source).mp hsource
    rw [decodeMessage_key (by decide) (by omega), decodeBody, reportBodyOf_bytes]
    exact if_pos hsource
  case readStatus target =>
    cases h
    exact decodeMessage_requestBytes (by decide) _ _ _
  case readPeer target argument =>
    cases h
    exact decodeMessage_requestBytes (by decide) _ _ _
  case readConfig target =>
    cases h
    exact decodeMessage_requestBytes (by decide) _ _ _
  case testOutput target argument value =>
    cases h
    exact decodeMessage_requestBytes (by decide) _ _ _
  case endTest target =>
    cases h
    exact decodeMessage_requestBytes (by decide) _ _ _
  case restart target =>
    cases h
    exact decodeMessage_requestBytes (by decide) _ _ _
  case clearLock target =>
    cases h
    exact decodeMessage_requestBytes (by decide) _ _ _
  all_goals cases h

/-- The code of a request kind as a number (10.1). -/
def requestCode : RequestKind → Nat
  | .readStatus => 1 | .readPeer => 2 | .readConfig => 3 | .testOutput => 4 | .endTest => 5 | .restart => 6
  | .clearLock => 7

/-- The code of a result as a number (10.1). -/
def resultCode : Result → Nat
  | .ok => 0 | .busy => 1 | .refused => 2 | .notPresent => 3

/-- The bytes of a SERVICE REPLY before its check (10.1). -/
theorem replyMessage_eq (own : Nat) (kind : RequestKind) (result : Result) (payload : List Byte) :
    Content.message own (.reply { kind := kind, result := result, payload := payload })
      = withCheck ([192 + own, requestCode kind, resultCode result, payload.length].map (BitVec.ofNat 8) ++ payload) := by
  cases kind <;> cases result <;> rfl

/-- No zone station reads a message of class 6 that is not the service tool's (R26). -/
theorem decodeBody_reply {source : Nat} (h : source ≠ 30) (body : List Byte) : decodeBody 6 source body = none := by
  unfold decodeBody
  split
  case h_7 =>
    split_ifs
    · rfl
    · rfl
  case h_8 => rfl
  all_goals contradiction

/-- Settles O4: reading undoes writing, class by class; a SERVICE REPLY is read by no zone station. -/
theorem messagesReadAsWritten : Obligations.MessagesReadAsWritten := by
  intro i bytes own report reply
  refine ⟨decodeMessage_encode, fun h1 h16 => ⟨⟨rfl, ?_, ?_⟩, ?_⟩⟩
  · exact priorityKey_toNat (by decide) (by omega)
  · exact decodeMessage_encode (i := .reportArrival own report) ((isZone_iff own).mpr ⟨h1, h16⟩) rfl
  · obtain ⟨kind, result, payload⟩ := reply
    have hmessage := replyMessage_eq own kind result payload
    have hnone : decodeMessage (Content.message own
        (.reply { kind := kind, result := result, payload := payload })) = none := by
      rw [Content.message]
      exact (decodeMessage_key (by decide) (by omega) _).trans (decodeBody_reply (by omega) _)
    dsimp only
    cases kind <;> cases result <;> exact ⟨hmessage, hmessage ▸ checked_withCheck _, hnone⟩

/-! ## Reading only what the table allows -/

/-- A message that is read is a key and a body with their check (R25). -/
theorem decodeMessage_some {bytes : List Byte} {i : Instr} (h : decodeMessage bytes = some i) :
    ∃ key body, bytes = withCheck (key :: body) ∧ decodeBody (key.toNat / 32) (key.toNat % 32) body = some i := by
  unfold decodeMessage at h
  split at h
  · next key body hchecked => exact ⟨key, body, (checked_eq_some_iff _ _).mp hchecked, h⟩
  · cases h

theorem requestOf_wf {code : Nat} {target : Fin 32} {argument : Byte} {value : Word} {i : Instr}
    (h : requestOf code target argument value = some i) : i.wf = true ∧ (messageBody i).isSome = true := by
  unfold requestOf at h
  split at h <;> cases h <;> exact ⟨rfl, rfl⟩

/-- What a class, a source and a body are read as stands in R26's table (R26). -/
theorem decodeBody_table {c source : Nat} {body : List Byte} {i : Instr} (h : decodeBody c source body = some i) :
    i.wf = true ∧ (messageBody i).isSome = true
    ∧ ((c = 0 ∧ source = 25 ∧ body.length = 0) ∨ (c = 1 ∧ assigned source = true ∧ body.length = 3)
      ∨ (c = 2 ∧ source = 25 ∧ body.length = 2) ∨ (c = 3 ∧ source = 26 ∧ body.length = 5)
      ∨ (c = 4 ∧ source = 24 ∧ body.length = 3) ∨ (c = 5 ∧ isZone source = true ∧ body.length = 13)
      ∨ (c = 6 ∧ source = 30 ∧ body.length = 5)) := by
  unfold decodeBody at h
  split at h
  case h_1 =>
    obtain ⟨hs, hi⟩ := Option.ite_none_right_eq_some.mp h
    cases hi
    exact ⟨rfl, rfl, by simp [hs]⟩
  case h_2 =>
    split at h
    · obtain ⟨hs, hi⟩ := Option.ite_none_right_eq_some.mp h
      cases hi
      exact ⟨hs, rfl, by simp_all⟩
    · cases h
  case h_3 =>
    obtain ⟨hs, hi⟩ := Option.ite_none_right_eq_some.mp h
    cases hi
    exact ⟨rfl, rfl, by simp [hs]⟩
  case h_4 =>
    split at h
    · obtain ⟨hs, hi⟩ := Option.ite_none_right_eq_some.mp h
      cases hi
      exact ⟨rfl, rfl, by simp [hs]⟩
    · cases h
  case h_5 =>
    split at h
    · obtain ⟨hs, hi⟩ := Option.ite_none_right_eq_some.mp h
      cases hi
      exact ⟨rfl, rfl, by simp [hs]⟩
    · cases h
  case h_6 =>
    split at h
    · next hbody =>
      obtain ⟨hs, hi⟩ := Option.ite_none_right_eq_some.mp h
      cases hi
      exact ⟨hs, rfl, by simp [hs, reportBodyOf_length hbody]⟩
    · cases h
  case h_7 =>
    split_ifs at h with ht hs
    obtain ⟨hwf, hbody⟩ := requestOf_wf h
    exact ⟨hwf, hbody, by simp [hs]⟩
  case h_8 => cases h

/-- Settles O5: a whole message is its key, its body and its check, and its class and source are the table's. -/
theorem acceptedMessagesAreInTable : Obligations.AcceptedMessagesAreInTable := by
  intro bytes i h
  obtain ⟨key, body, hbytes, hi⟩ := decodeMessage_some h
  obtain ⟨hwf, hsome, htable⟩ := decodeBody_table hi
  have hlength : bytes.length = body.length + 3 := by
    rw [hbytes]
    simp [withCheck, wordBytes]
  have htake : bytes.take (bytes.length - 2) = key :: body := by
    rw [hlength, hbytes]
    simp [withCheck]
  have hhead : bytes.headD 0#8 = key := by
    rw [hbytes]
    rfl
  dsimp only
  rw [hhead, htake, hlength]
  refine ⟨hwf, by rw [encodeMessage, Option.isSome_map]; exact hsome, hbytes, ?_⟩
  simpa using htable

end Sys2Proof.Machine
end

section
/-! Characters and messages as bits, and one level read from the line (section 2.1; R19 to R25; log 34). -/

namespace Sys2Proof.Machine

/-! ## Characters -/

theorem messageBits_cons (b : Byte) (bytes : List Byte) : messageBits (b :: bytes) = characterBits b ++ messageBits bytes :=
  rfl

theorem messageBits_length (bytes : List Byte) : (messageBits bytes).length = 10 * bytes.length := by
  induction bytes with
  | nil => rfl
  | cons b bytes ih =>
    rw [messageBits_cons, List.length_append, ih, List.length_cons]
    show 10 + _ = _
    omega

/-- The bits of a byte, least significant first, are that byte (R19). -/
theorem byte_ofBits (b : Byte) :
    BitVec.ofBoolListLE [b.getLsbD 0, b.getLsbD 1, b.getLsbD 2, b.getLsbD 3, b.getLsbD 4, b.getLsbD 5, b.getLsbD 6,
      b.getLsbD 7] = b := by
  refine BitVec.eq_of_getLsbD_eq fun i hi => ?_
  have hi8 : i < 8 := hi
  rw [BitVec.getLsbD_ofBoolListLE]
  clear hi
  interval_cases i <;> rfl

/-- The whole characters among the bits of a message and less than one further character are its bytes (R25). -/
theorem characterBytes_messageBits (bytes : List Byte) {rest : List Bool} (h : rest.length < 10) :
    characterBytes (messageBits bytes ++ rest) = bytes := by
  induction bytes with
  | nil =>
    show characterBytes rest = []
    unfold characterBytes
    split
    · simp at h
      omega
    · rfl
  | cons b bytes ih =>
    rw [messageBits_cons, List.append_assoc]
    exact congrArg₂ List.cons (byte_ofBits b) ih

/-- A message that has a bit begins with a start bit (R19). -/
theorem messageBits_head (bytes : List Byte) (h : 0 < (messageBits bytes).length) :
    (messageBits bytes).getD 0 true = false := by
  cases bytes with
  | nil => exact absurd h (by decide)
  | cons b bytes => rfl

/-! ## The read-back -/

theorem firstMismatch_of_same (place : Nat) (sent : List Bool) (n : Nat) :
    firstMismatch place sent (sent.take n) = none := by
  induction sent generalizing place n with
  | nil => rw [List.take_nil]; rfl
  | cons bit sent ih =>
    cases n with
    | zero => rfl
    | succ n => exact (if_pos rfl).trans (ih (place + 1) n)

theorem firstMismatch_of_other (place : Nat) {sent : List Bool} {n : Nat} {level : Bool} (hn : n < sent.length)
    (h : level ≠ sent.getD n true) :
    firstMismatch place sent (sent.take n ++ [level]) = some (place + n, sent.getD n true) := by
  induction sent generalizing place n with
  | nil => exact absurd hn (by simp)
  | cons bit sent ih =>
    cases n with
    | zero => exact if_neg fun he => h he.symm
    | succ n =>
      refine (if_pos rfl).trans ((ih (place + 1) (by simpa using hn) h).trans ?_)
      rw [Nat.add_assoc, Nat.add_comm 1]
      rfl

/-- The bits read so far and the next level, where it is the one sent. -/
theorem take_read {sent : List Bool} {n : Nat} {level : Bool} (hn : n < sent.length) (h : level = sent.getD n true) :
    sent.take n ++ [level] = sent.take (n + 1) := by
  rw [h, List.getD_eq_getElem _ _ hn, List.take_concat_get']

theorem attemptEnd_of_same {sent : List Bool} {n : Nat} (hn : n < sent.length) :
    attemptEnd sent (sent.take (n + 1)) = if n + 1 = sent.length then some .attemptComplete else none := by
  have hlength : sent.length ≤ (sent.take (n + 1)).length ↔ n + 1 = sent.length := by
    rw [List.length_take]
    omega
  rw [attemptEnd, firstMismatch_of_same]
  simp only [hlength]

theorem attemptEnd_of_other {sent : List Bool} {n : Nat} {level : Bool} (hn : n < sent.length)
    (h : level ≠ sent.getD n true) :
    attemptEnd sent (sent.take n ++ [level])
      = some (if 1 ≤ n ∧ n ≤ 8 ∧ sent.getD n true = true then .contentionLoss else .attemptError) := by
  rw [attemptEnd, firstMismatch_of_other 0 hn h, Nat.zero_add]

/-! ## One level, by what the station is doing -/

theorem Link.readLevel_of_attempt {l : Link} {a : Attempt} (ha : l.attempt = some a) (own : Nat) (level : Bool) :
    l.readLevel own level = l.readBack own a level := by
  unfold Link.readLevel
  rw [ha]

theorem Link.readLevel_of_waiting {l : Link} (ha : l.attempt = none) (hi : l.incoming.getD [] = []) (own : Nat)
    (level : Bool) : l.readLevel own level = Link.awaitStart level { l with incoming := none } := by
  obtain ⟨line, ones, incoming⟩ := l
  cases ha
  cases incoming with
  | none => rfl
  | some bits =>
    cases hi
    rfl

theorem Link.readLevel_of_receiving {l : Link} {bits : List Bool} (ha : l.attempt = none) (hi : l.incoming = some bits)
    (hne : bits ≠ []) (own : Nat) (level : Bool) : l.readLevel own level = l.receiveLevel bits level := by
  unfold Link.readLevel
  rw [ha, hi]
  cases bits with
  | nil => exact absurd rfl hne
  | cons bit bits => rfl

theorem Link.idleEvent_eq (level : Bool) (l : Link) :
    l.idleEvent level = if level = true ∧ l.ones = 11 then [.lineIdle] else [] := by
  unfold Link.idleEvent idleBits
  simp

theorem Link.awaitStart_of_start {l : Link} (hl : l.line = .idle) :
    l.awaitStart false = ({ l.count false with line := .busy, incoming := some [false] }, []) := by
  unfold Link.awaitStart
  rw [hl]

theorem Link.awaitStart_of_none {l : Link} {level : Bool} (h : l.line ≠ .idle ∨ level = true) :
    l.awaitStart level = (l.count level, l.idleEvent level) := by
  unfold Link.awaitStart
  split
  · next hl => exact absurd hl (by simpa using h)
  · rfl

theorem Link.receiveLevel_of_over {bits : List Bool} (h : bits.length % 10 = 0) (l : Link) :
    l.receiveLevel bits true = ({ l.count true with incoming := none },
      (decodeMessage (characterBytes (bits ++ [true]))).getD (.receptionDrop (characterBytes (bits ++ [true])))
        :: l.idleEvent true) := by
  rw [Link.receiveLevel, messageEnd_of_over h]

theorem Link.receiveLevel_of_badStop {bits : List Bool} (h : bits.length % 10 = 9) (l : Link) :
    l.receiveLevel bits false = ({ l.count false with incoming := none },
      [.receptionDrop (characterBytes (bits ++ [false]))]) := by
  rw [Link.receiveLevel, messageEnd_of_badStop h, Link.idleEvent_eq]
  rfl

theorem Link.receiveLevel_of_cut {bits : List Bool} {level : Bool} (h0 : ¬(bits.length % 10 = 0 ∧ level = true))
    (h9 : ¬(bits.length % 10 = 9 ∧ level = false)) {l : Link} (hidle : level = true ∧ l.ones = 11) :
    l.receiveLevel bits level = ({ l.count level with incoming := none },
      [.receptionDrop (characterBytes (bits ++ [level])), .lineIdle]) := by
  rw [Link.receiveLevel, messageEnd_of_within h0 h9, Link.idleEvent_eq, if_pos hidle]

theorem Link.receiveLevel_of_within {bits : List Bool} {level : Bool} (h0 : ¬(bits.length % 10 = 0 ∧ level = true))
    (h9 : ¬(bits.length % 10 = 9 ∧ level = false)) {l : Link} (hidle : ¬(level = true ∧ l.ones = 11)) :
    l.receiveLevel bits level = ({ l.count level with incoming := some (bits ++ [level]) }, []) := by
  rw [Link.receiveLevel, messageEnd_of_within h0 h9, Link.idleEvent_eq, if_neg hidle]

/-! ## One level of the read-back -/

section
variable {own : Nat} {a : Attempt} {l : Link} {level : Bool}

/-- The start bit of an attempt that reads 1 (R22). -/
theorem Link.readBack_of_highStart (hb : l.incoming.getD [] = []) :
    l.readBack own a true = ({ l.count true with incoming := some [] },
      (attemptEnd (messageBits (a.content.message own)) [true]).toList
        ++ if (l.count true).ones = idleBits then [.lineIdle] else []) := by
  unfold Link.readBack
  rw [hb]
  rfl

/-- Any other level of an attempt is a bit of it, with the end that it brings (R21 to R23). -/
theorem Link.readBack_of_bit (hb : l.incoming.getD [] ≠ [] ∨ level = false) :
    l.readBack own a level = ({ l.count level with incoming := some (l.incoming.getD [] ++ [level]) },
      match attemptEnd (messageBits (a.content.message own)) (l.incoming.getD [] ++ [level]) with
      | some .attemptComplete => [.attemptComplete]
      | some event => event :: (messageEnd (l.incoming.getD []) level).toList
      | none => []) := by
  unfold Link.readBack
  dsimp only
  generalize l.incoming.getD [] = bits at hb ⊢
  generalize attemptEnd _ (bits ++ [level]) = event
  cases bits with
  | nil =>
    obtain rfl : level = false := by simpa using hb
    cases event with
    | none => rfl
    | some c => cases c <;> rfl
  | cons bit bits =>
    cases event with
    | none => rfl
    | some c => cases c <;> rfl

variable {sent : List Bool} {n : Nat} (hsent : messageBits (a.content.message own) = sent) (hn : n < sent.length)
  (hi : l.incoming = some (sent.take n))
include hsent hn hi

/-- A level read as sent is a bit of the attempt, the last of which completes it (R23). -/
theorem Link.readBack_of_same (h : level = sent.getD n true) :
    l.readBack own a level = ({ l.count level with incoming := some (sent.take (n + 1)) },
      if n + 1 = sent.length then [.attemptComplete] else []) := by
  have hfirst : l.incoming.getD [] ≠ [] ∨ level = false := by
    rw [hi]
    cases n with
    | zero =>
      subst hsent
      exact .inr (h.trans (messageBits_head _ hn))
    | succ n => exact .inl (List.ne_nil_of_length_pos (by simp; omega))
  rw [Link.readBack_of_bit hfirst, hsent, hi, Option.getD_some, take_read hn h, attemptEnd_of_same hn]
  split_ifs <;> rfl

/-- A level that reads other than it was sent, past the start bit, ends the attempt and is read as one of the message on
the line (R21, R22). -/
theorem Link.readBack_of_other (h : level ≠ sent.getD n true) (hpast : 1 ≤ n) :
    l.readBack own a level = ({ l.count level with incoming := some (sent.take n ++ [level]) },
      (if n ≤ 8 ∧ sent.getD n true = true then .contentionLoss else .attemptError)
        :: (messageEnd (sent.take n) level).toList) := by
  have hfirst : sent.take n ≠ [] := List.ne_nil_of_length_pos (by simp; omega)
  rw [Link.readBack_of_bit (.inl (by rw [hi]; exact hfirst)), hsent, hi, Option.getD_some, attemptEnd_of_other hn h]
  simp only [hpast, true_and]
  split_ifs <;> rfl

/-- A start bit that reads 1 is an attempt error, and leaves nothing on the line (R22). -/
theorem Link.readBack_of_badStart (h : level ≠ sent.getD n true) (hzero : n = 0) :
    l.readBack own a level = ({ l.count level with incoming := some [] },
      .attemptError :: if (l.count level).ones = 12 then [.lineIdle] else []) := by
  subst hzero
  have hhead : sent.getD 0 true = false := by
    subst hsent
    exact messageBits_head _ hn
  obtain rfl : level = true := by
    rw [hhead] at h
    simpa using h
  have hend := attemptEnd_of_other hn h
  rw [Link.readBack_of_highStart (by rw [hi]; rfl), hsent]
  rw [List.take_zero, List.nil_append] at hend
  rw [hend, if_neg (by omega)]
  rfl

end

/-! ## The statement -/

theorem Link.readBack_line (own : Nat) (a : Attempt) (level : Bool) (l : Link) :
    (l.readBack own a level).1.line = l.line := by
  unfold Link.readBack
  dsimp only
  split <;> rfl

theorem Link.receiveLevel_line (bits : List Bool) (level : Bool) (l : Link) :
    (l.receiveLevel bits level).1.line = l.line := by
  unfold Link.receiveLevel
  split <;> rfl

/-- The end of a message whose characters are whole is its arrival or its drop (R25). -/
theorem messageEnd_of_message {bytes : List Byte} :
    messageEnd (messageBits bytes) true = some ((decodeMessage bytes).getD (.receptionDrop bytes)) := by
  rw [messageEnd_of_over (by rw [messageBits_length]; omega), characterBytes_messageBits bytes (by decide)]

/-- Settles O6: a level with no message on the line, within one, and in an attempt. -/
theorem lineLevelsRead : Obligations.LineLevelsRead := by
  intro own level l
  dsimp only
  refine ⟨Link.readLevel_frame own level l, fun ha hb => ⟨?_, ?_⟩, fun ha hb => ?_, fun a ha n hn hi => ?_⟩
  · rintro hl rfl
    rw [Link.readLevel_of_waiting ha hb, Link.awaitStart_of_start (l := { l with incoming := none }) hl]
    exact ⟨rfl, rfl, rfl⟩
  · intro h
    rw [Link.readLevel_of_waiting ha hb, Link.awaitStart_of_none (l := { l with incoming := none }) h, Link.idleEvent_eq]
    exact ⟨rfl, rfl, rfl⟩
  · obtain ⟨bits, hi⟩ : ∃ bits, l.incoming = some bits := by
      cases h : l.incoming with
      | none => simp [h] at hb
      | some bits => exact ⟨bits, rfl⟩
    rw [hi, Option.getD_some] at hb ⊢
    rw [Link.readLevel_of_receiving ha hi hb]
    refine ⟨Link.receiveLevel_line _ _ _, ?_, ?_, fun h0 h9 hidle => ?_, fun h0 h9 hidle => ?_⟩
    · rintro ⟨h0, rfl⟩
      rw [Link.receiveLevel_of_over h0, Link.idleEvent_eq]
      refine ⟨rfl, ?_⟩
      rintro bytes rfl
      exact ⟨_, congrArg (· :: _) (by rw [characterBytes_messageBits bytes (by decide)])⟩
    · rintro ⟨h9, rfl⟩
      rw [Link.receiveLevel_of_badStop h9]
      exact ⟨rfl, _, rfl⟩
    · have hones : level = true ∧ l.ones = 11 := by
        by_contra hnot
        exact hidle (if_neg hnot)
      rw [Link.receiveLevel_of_cut h0 h9 hones, if_pos hones]
      exact ⟨rfl, _, rfl⟩
    · have hones : ¬(level = true ∧ l.ones = 11) := by
        intro hones
        rw [if_pos hones] at hidle
        cases hidle
      rw [Link.receiveLevel_of_within h0 h9 hones]
      exact ⟨rfl, rfl⟩
  · rw [Link.readLevel_of_attempt ha]
    refine ⟨Link.readBack_line _ _ _ _, fun h => ?_, fun h hpast => ?_, fun h hzero => ?_⟩
    · rw [Link.readBack_of_same rfl hn hi h]
      exact ⟨rfl, rfl⟩
    · rw [Link.readBack_of_other rfl hn hi h hpast, hi, Option.getD_some]
      generalize (messageBits (a.content.message own)).take n = bits
      refine ⟨rfl, fun h0 h9 => ?_, ?_, ?_⟩
      · rw [messageEnd_of_within h0 h9]
        rfl
      · rintro ⟨h0, rfl⟩ bytes rfl
        rw [messageEnd_of_message]
        exact ⟨_, rfl⟩
      · rintro ⟨h9, rfl⟩
        rw [messageEnd_of_badStop h9]
        exact ⟨_, rfl⟩
    · rw [Link.readBack_of_badStart rfl hn hi h hzero]
      exact ⟨rfl, rfl⟩

end Sys2Proof.Machine
end

section
/-! Whole messages on the line, received and sent (section 2.1; R19, R20, R23, R25, R36; log 34). -/

namespace Sys2Proof.Machine

/-! ## Levels that nobody listens to -/

theorem Link.count_ones_of_false (l : Link) : (l.count false).ones = 0 := rfl

theorem Link.count_ones_of_true {l : Link} (h : l.ones < 12) : (l.count true).ones = l.ones + 1 := by
  show min 12 (l.ones + 1) = l.ones + 1
  omega

theorem Link.count_eq (level : Bool) (l : Link) : l.count level = { l with ones := (l.count level).ones } := rfl

theorem Link.readLevels_cons (own : Nat) (level : Bool) (levels : List Bool) (l : Link) :
    l.readLevels own (level :: levels) =
      (((l.readLevel own level).1.readLevels own levels).1,
        (l.readLevel own level).2 ++ ((l.readLevel own level).1.readLevels own levels).2) :=
  rfl

/-- Reading these levels changes the run of 1s, to at most `most`, and the bits read, to `incoming`, and brings nothing. -/
def Link.Reads (own : Nat) (l : Link) (levels : List Bool) (incoming : Option (List Bool)) (most : Nat) : Prop :=
  ∃ ones ≤ most, l.readLevels own levels = ({ l with ones := ones, incoming := incoming }, [])

theorem Link.Reads.append {own : Nat} {l : Link} {first second : List Bool} {mid last : Option (List Bool)} {m k : Nat}
    (h : l.Reads own first mid m)
    (h' : ∀ ones ≤ m, Link.Reads own { l with ones := ones, incoming := mid } second last k) :
    l.Reads own (first ++ second) last k := by
  obtain ⟨ones, hle, he⟩ := h
  obtain ⟨ones', hle', he'⟩ := h' ones hle
  refine ⟨ones', hle', ?_⟩
  rw [Link.readLevels_append, he, he']
  rfl

theorem Link.Reads.of_level {own : Nat} {l : Link} {level : Bool} {incoming : Option (List Bool)}
    (h : l.readLevel own level = ({ l.count level with incoming := incoming }, [])) :
    l.Reads own [level] incoming (l.count level).ones := by
  refine ⟨_, le_rfl, ?_⟩
  rw [Link.readLevels_cons, h]
  rfl

theorem Link.Reads.weaken {own : Nat} {l : Link} {levels : List Bool} {incoming : Option (List Bool)} {m k : Nat}
    (h : l.Reads own levels incoming m) (hle : m ≤ k) : l.Reads own levels incoming k := by
  obtain ⟨ones, ho, he⟩ := h
  exact ⟨ones, ho.trans hle, he⟩

/-- Levels too few to make the line idle, on a line with no message that does not become one. -/
theorem Link.reads_unheard {own : Nat} {l : Link} (ha : l.attempt = none) (hi : l.incoming = none) (hl : l.line ≠ .idle)
    {levels : List Bool} (h : l.ones + levels.length ≤ 11) :
    l.Reads own levels none (l.ones + levels.length) := by
  induction levels generalizing l with
  | nil =>
    refine ⟨l.ones, le_rfl, ?_⟩
    rw [← hi]
    rfl
  | cons level levels ih =>
    rw [List.length_cons] at h ⊢
    have hread : l.readLevel own level = ({ l.count level with incoming := none }, []) := by
      rw [Link.readLevel_of_waiting ha (by rw [hi]; rfl),
        Link.awaitStart_of_none (l := { l with incoming := none }) (.inl hl), Link.idleEvent_eq, if_neg (fun ⟨_, (h11 : l.ones = 11)⟩ => by omega)]
      rfl
    have hones : (l.count level).ones ≤ l.ones + 1 := by
      cases level
      · exact Nat.zero_le _
      · exact Nat.min_le_right _ _
    refine (Link.Reads.of_level hread).append fun ones hle => ?_
    obtain ⟨o, ho, he⟩ := ih (l := { l with ones := ones, incoming := none }) ha rfl hl (by dsimp only; omega)
    exact ⟨o, by dsimp only at ho; omega, he⟩

/-! ## Levels of a message received -/

/-- Data bits of a character are appended to the message. -/
theorem Link.reads_data {own : Nat} {l : Link} (ha : l.attempt = none) {bits levels : List Bool}
    (hi : l.incoming = some bits) (hplace : 1 ≤ bits.length % 10) (hdata : bits.length % 10 + levels.length ≤ 9)
    (h : l.ones + levels.length ≤ 11) :
    l.Reads own levels (some (bits ++ levels)) (l.ones + levels.length) := by
  induction levels generalizing l bits with
  | nil =>
    refine ⟨l.ones, le_rfl, ?_⟩
    rw [List.append_nil, ← hi]
    rfl
  | cons level levels ih =>
    rw [List.length_cons] at h hdata ⊢
    have hne : bits ≠ [] := by
      rintro rfl
      simp at hplace
    have hread : l.readLevel own level = ({ l.count level with incoming := some (bits ++ [level]) }, []) := by
      rw [Link.readLevel_of_receiving ha hi hne, Link.receiveLevel_of_within (by omega) (by omega) (by omega)]
    have hones : (l.count level).ones ≤ l.ones + 1 := by
      cases level
      · exact Nat.zero_le _
      · exact Nat.min_le_right _ _
    refine (Link.Reads.of_level hread).append fun ones hle => ?_
    obtain ⟨o, ho, he⟩ := ih (l := { l with ones := ones, incoming := some (bits ++ [level]) })
      (bits := bits ++ [level]) ha rfl (by simp; omega) (by simp; omega) (by dsimp only; omega)
    rw [List.append_assoc] at he
    exact ⟨o, by dsimp only at ho; omega, he⟩

/-- A start bit within a message is appended to it. -/
theorem Link.reads_start {own : Nat} {l : Link} (ha : l.attempt = none) {bits : List Bool} (hi : l.incoming = some bits)
    (hne : bits ≠ []) (hplace : bits.length % 10 = 0) : l.Reads own [false] (some (bits ++ [false])) 0 :=
  Link.Reads.of_level (by
    rw [Link.readLevel_of_receiving ha hi hne, Link.receiveLevel_of_within (by simp) (by omega) (by simp)])

/-- A stop bit of 1 is appended to the message. -/
theorem Link.reads_stop {own : Nat} {l : Link} (ha : l.attempt = none) {bits : List Bool} (hi : l.incoming = some bits)
    (hplace : bits.length % 10 = 9) (h : l.ones ≤ 8) : l.Reads own [true] (some (bits ++ [true])) 9 := by
  have hne : bits ≠ [] := by
    rintro rfl
    cases hplace
  refine (Link.Reads.of_level (incoming := some (bits ++ [true])) ?_).weaken
    ((Link.count_ones_of_true (by omega)).trans_le (Nat.succ_le_succ h))
  rw [Link.readLevel_of_receiving ha hi hne, Link.receiveLevel_of_within (by omega) (by simp) (by omega)]

/-- The data bits and the stop bit of a character, after its start bit. -/
theorem Link.reads_characterRest {own : Nat} {l : Link} (ha : l.attempt = none) {bits : List Bool}
    (hi : l.incoming = some bits) (hplace : bits.length % 10 = 1) (h : l.ones = 0) (b : Byte) :
    l.Reads own (byteBits b ++ [true]) (some (bits ++ (byteBits b ++ [true]))) 9 := by
  have hlength : (byteBits b).length = 8 := rfl
  have hdata : l.Reads own (byteBits b) (some (bits ++ byteBits b)) (l.ones + 8) :=
    Link.reads_data ha hi (by omega) (by omega) (by omega)
  refine hdata.append fun ones hle => ?_
  rw [← List.append_assoc]
  exact Link.reads_stop (l := { l with ones := ones, incoming := some (bits ++ byteBits b) }) ha rfl
    (by rw [List.length_append]; omega) (by dsimp only; omega)

/-- A character within a message is appended to it. -/
theorem Link.reads_character {own : Nat} {l : Link} (ha : l.attempt = none) {bits : List Bool}
    (hi : l.incoming = some bits) (hne : bits ≠ []) (hplace : bits.length % 10 = 0) (b : Byte) :
    l.Reads own (characterBits b) (some (bits ++ characterBits b)) 9 := by
  show l.Reads own ([false] ++ (byteBits b ++ [true])) (some (bits ++ ([false] ++ (byteBits b ++ [true])))) 9
  rw [← List.append_assoc bits]
  refine (Link.reads_start ha hi hne hplace).append fun ones hle => ?_
  exact Link.reads_characterRest (l := { l with ones := ones, incoming := some (bits ++ [false]) }) ha rfl
    (by simp; omega) (Nat.le_zero.mp hle) b

/-- The characters that follow within a message are appended to it. -/
theorem Link.reads_message {own : Nat} {l : Link} (ha : l.attempt = none) {bits : List Bool}
    (hi : l.incoming = some bits) (hne : bits ≠ []) (hplace : bits.length % 10 = 0) (h : l.ones ≤ 9) (bytes : List Byte) :
    l.Reads own (messageBits bytes) (some (bits ++ messageBits bytes)) 9 := by
  induction bytes generalizing l bits with
  | nil =>
    refine ⟨l.ones, h, ?_⟩
    rw [show messageBits [] = [] from rfl, List.append_nil, ← hi]
    rfl
  | cons b bytes ih =>
    rw [messageBits_cons, ← List.append_assoc]
    refine (Link.reads_character ha hi hne hplace b).append fun ones hle => ?_
    exact ih (l := { l with ones := ones, incoming := some (bits ++ characterBits b) }) ha rfl (by simp [hne])
      (by rw [List.length_append, show (characterBits b).length = 10 from rfl]; omega) hle

/-! ## A message from its first bit -/

/-- The characters of a message on a line that is not idle. -/
theorem Link.reads_unheardMessage {own : Nat} {l : Link} (ha : l.attempt = none) (hi : l.incoming = none)
    (hl : l.line ≠ .idle) (b : Byte) (bytes : List Byte) : l.Reads own (messageBits (b :: bytes)) none 9 := by
  have hcharacter : ∀ (c : Byte) (k : Link), k.attempt = none → k.incoming = none → k.line ≠ .idle →
      k.Reads own (characterBits c) none 9 := by
    intro c k ha hi hl
    have hstart : k.Reads own [false] none 0 := Link.Reads.of_level (by
      rw [Link.readLevel_of_waiting ha (by rw [hi]; rfl),
        Link.awaitStart_of_none (l := { k with incoming := none }) (.inl hl)]
      rfl)
    show k.Reads own ([false] ++ (byteBits c ++ [true])) none 9
    refine hstart.append fun ones hle => ?_
    have hlength : (byteBits c ++ [true]).length = 9 := rfl
    exact (Link.reads_unheard (l := { k with ones := ones, incoming := none }) ha rfl hl
      (by dsimp only; omega)).weaken (by dsimp only; omega)
  induction bytes generalizing l b with
  | nil => exact hcharacter b l ha hi hl
  | cons c bytes ih =>
    rw [messageBits_cons]
    exact (hcharacter b l ha hi hl).append fun ones _ => ih (l := { l with ones := ones, incoming := none }) ha rfl hl c

/-- The characters of a message on an idle line, which is busy from its first bit on (R19). -/
theorem Link.readLevels_message {own : Nat} {l : Link} (ha : l.attempt = none) (hi : l.incoming = none)
    (hl : l.line = .idle) (b : Byte) (bytes : List Byte) :
    ∃ ones ≤ 9, l.readLevels own (messageBits (b :: bytes))
      = ({ l with line := .busy, ones := ones, incoming := some (messageBits (b :: bytes)) }, []) := by
  let k : Link := { l with line := .busy, ones := 0, incoming := some [false] }
  have hstart : l.readLevel own false = (k, []) := by
    rw [Link.readLevel_of_waiting ha (by rw [hi]; rfl), Link.awaitStart_of_start (l := { l with incoming := none }) hl]
    rfl
  have hrest : k.Reads own ((byteBits b ++ [true]) ++ messageBits bytes)
      (some ([false] ++ (byteBits b ++ [true]) ++ messageBits bytes)) 9 :=
    (Link.reads_characterRest (l := k) ha rfl rfl rfl b).append fun ones hle =>
      Link.reads_message (l := { k with ones := ones, incoming := some ([false] ++ (byteBits b ++ [true])) }) ha rfl
        (by simp) (by simp [byteBits]) hle bytes
  obtain ⟨ones, hle, he⟩ := hrest
  refine ⟨ones, hle, ?_⟩
  rw [messageBits_cons, show characterBits b = false :: (byteBits b ++ [true]) from rfl, List.cons_append,
    Link.readLevels_cons, hstart, he]
  rfl

/-- A message on an idle line is over at the 1 after it (R25; log 34). -/
theorem Link.readLevels_over {own : Nat} {l : Link} (ha : l.attempt = none) (hi : l.incoming = none)
    (hl : l.line = .idle) {bytes : List Byte} (hne : bytes ≠ []) :
    ∃ ones ≤ 10, l.readLevels own (messageBits bytes ++ [true])
      = ({ l with line := .busy, ones := ones, incoming := none },
        [(decodeMessage bytes).getD (.receptionDrop bytes)]) := by
  obtain ⟨b, rest, rfl⟩ := List.exists_cons_of_ne_nil hne
  obtain ⟨ones, hle, he⟩ := Link.readLevels_message (own := own) ha hi hl b rest
  let k : Link := { l with line := .busy, ones := ones, incoming := some (messageBits (b :: rest)) }
  have hmod : (messageBits (b :: rest)).length % 10 = 0 := by
    rw [messageBits_length]
    omega
  have hlast : k.readLevel own true = ({ l with line := .busy, ones := ones + 1, incoming := none },
      [(decodeMessage (b :: rest)).getD (.receptionDrop (b :: rest))]) := by
    rw [Link.readLevel_of_receiving (l := k) ha rfl (List.cons_ne_nil _ _), Link.receiveLevel_of_over hmod,
      characterBytes_messageBits _ (by decide), Link.idleEvent_eq, if_neg (fun ⟨_, (h11 : ones = 11)⟩ => by omega),
      Link.count_eq, Link.count_ones_of_true (show k.ones < 12 from Nat.lt_of_le_of_lt hle (by decide))]
  refine ⟨ones + 1, by omega, ?_⟩
  rw [Link.readLevels_append, he, Link.readLevels_cons, hlast]
  rfl

/-- On a line that is not idle a message brings nothing (R19). -/
theorem Link.readLevels_unheard {own : Nat} {l : Link} (ha : l.attempt = none) (hi : l.incoming = none)
    (hl : l.line ≠ .idle) {bytes : List Byte} (hne : bytes ≠ []) :
    l.Reads own (messageBits bytes ++ [true]) none 10 := by
  obtain ⟨b, rest, rfl⟩ := List.exists_cons_of_ne_nil hne
  refine (Link.reads_unheardMessage ha hi hl b rest).append fun ones hle => ?_
  exact (Link.reads_unheard (l := { l with ones := ones, incoming := none }) ha rfl hl
    (by simp; omega)).weaken (by simp; omega)

/-- A 1 with no message on the line. -/
theorem Link.readLevel_high {own : Nat} {l : Link} (ha : l.attempt = none) (hi : l.incoming = none) (h : l.ones < 12) :
    l.readLevel own true
      = ({ l with ones := l.ones + 1, incoming := none }, if l.ones = 11 then [.lineIdle] else []) := by
  rw [Link.readLevel_of_waiting ha (by rw [hi]; rfl), Link.awaitStart_of_none (l := { l with incoming := none }) (.inr rfl),
    Link.count_eq, Link.count_ones_of_true (l := { l with incoming := none }) h, Link.idleEvent_eq]
  simp only [true_and]

/-- The 1s that are missing make the line idle (R19). -/
theorem Link.readLevels_ones {own k : Nat} {l : Link} (ha : l.attempt = none) (hi : l.incoming = none)
    (h : l.ones + (k + 1) = 12) : (l.readLevels own (List.replicate (k + 1) true)).2 = [.lineIdle] := by
  induction k generalizing l with
  | zero =>
    rw [List.replicate_one, Link.readLevels_cons, Link.readLevel_high ha hi (by omega), if_pos (by omega)]
    rfl
  | succ k ih =>
    rw [List.replicate_succ, Link.readLevels_cons, Link.readLevel_high ha hi (by omega), if_neg (by omega)]
    exact ih (l := { l with ones := l.ones + 1, incoming := none }) ha rfl (by dsimp only; omega)

/-! ## An attempt sent -/

/-- The bits of an attempt that read back as sent, from any place on, complete it (R23). -/
theorem Link.readLevels_sent {own : Nat} {a : Attempt} {sent rest : List Bool}
    (hsent : messageBits (a.content.message own) = sent) {l : Link} (ha : l.attempt = some a) {n : Nat}
    (hn : n < sent.length) (hi : l.incoming = some (sent.take n)) (hrest : sent.drop n = rest) :
    ∃ ones, l.readLevels own rest = ({ l with ones := ones, incoming := some sent }, [.attemptComplete]) := by
  induction rest generalizing l n with
  | nil => exact absurd (List.drop_eq_nil_iff.mp hrest) (by omega)
  | cons level rest ih =>
    rw [List.drop_eq_getElem_cons hn, List.cons.injEq] at hrest
    obtain ⟨hlevel, hrest⟩ := hrest
    have hread := Link.readBack_of_same hsent hn hi (level := level) (by rw [List.getD_eq_getElem _ _ hn, hlevel])
    rw [Link.readLevels_cons, Link.readLevel_of_attempt ha, hread]
    by_cases hlast : n + 1 = sent.length
    · rw [if_pos hlast]
      rw [List.drop_of_length_le (by omega)] at hrest
      subst hrest
      rw [List.take_of_length_le (by omega)]
      exact ⟨_, rfl⟩
    · rw [if_neg hlast]
      obtain ⟨ones, he⟩ := ih (l := { l.count level with incoming := some (sent.take (n + 1)) }) ha (by omega) rfl hrest
      rw [he]
      exact ⟨ones, rfl⟩

/-! ## The statement -/

/-- A message that is read does not stay one with further bytes after its check (R25). -/
theorem decodeMessage_longer {bytes more : List Byte} {i : Instr} (h : decodeMessage bytes = some i) (hm : more ≠ []) :
    decodeMessage (bytes ++ more) = none := by
  cases hl : decodeMessage (bytes ++ more) with
  | none => rfl
  | some j =>
    obtain ⟨-, -, -, hshort⟩ := acceptedMessagesAreInTable bytes i h
    obtain ⟨-, -, -, hlong⟩ := acceptedMessagesAreInTable (bytes ++ more) j hl
    have hpos : 0 < more.length := List.length_pos_iff.mpr hm
    have hhead : (bytes ++ more).headD 0#8 = bytes.headD 0#8 := by
      cases bytes with
      | nil => simp at hshort
      | cons b bytes => rfl
    rw [hhead, List.length_append] at hlong
    omega

/-- Settles O7: character by character, from the first bit of a message to the 1 after it, and of an attempt. -/
theorem messageBitsReadAndSent : Obligations.MessageBitsReadAndSent := by
  intro i bytes more a own l
  refine ⟨rfl, fun hwf he ha hi => ?_, fun ha hi => ?_⟩
  · have hi' := decodeMessage_encode hwf he
    have hne : bytes ≠ [] := by
      rintro rfl
      cases hi'
    obtain ⟨ones, hle, hr⟩ : ∃ ones ≤ 10, l.readLevels own (messageBits bytes ++ [true])
        = ({ l with line := if l.line = .idle then .busy else l.line, ones := ones, incoming := none },
          if l.line = .idle then [i] else []) := by
      by_cases hl : l.line = .idle
      · rw [if_pos hl, if_pos hl]
        obtain ⟨ones, hle, hr⟩ := Link.readLevels_over (own := own) ha hi hl hne
        exact ⟨ones, hle, by rw [hr, hi', Option.getD_some]⟩
      · rw [if_neg hl, if_neg hl]
        exact Link.readLevels_unheard ha hi hl hne
    dsimp only
    rw [hr]
    refine ⟨rfl, by dsimp only; omega, fun hl => ⟨if_pos hl, if_pos hl⟩, fun hl => ⟨if_neg hl, if_neg hl⟩, ?_,
      fun hl hm => ?_⟩
    · obtain ⟨k, hk⟩ : ∃ k, 12 - ones = k + 1 := ⟨11 - ones, by omega⟩
      dsimp only
      rw [hk]
      exact Link.readLevels_ones ha rfl (by dsimp only; omega)
    · obtain ⟨_, -, hlonger⟩ := Link.readLevels_over (own := own) ha hi hl (bytes := bytes ++ more) (by simp [hne])
      rw [hlonger, decodeMessage_longer hi' hm]
      rfl
  · have hpos : 0 < (messageBits (a.content.message own)).length := by
      rw [messageBits_length]
      cases a.content <;> simp [Content.message, withCheck]
    obtain ⟨ones, hr⟩ := Link.readLevels_sent rfl ha hpos hi rfl
    rw [List.drop_zero] at hr
    dsimp only
    rw [hr]
    exact ⟨rfl, rfl⟩

end Sys2Proof.Machine
end

section
/-! The reading requests: READ_STATUS, READ_CONFIG and READ_PEER with their payloads (R45, R173, 10.1; log 12). -/

namespace Sys2Proof.Machine

/-! ## Fields in their places -/

/-- A field stands in a payload at this place. -/
def ShownAt (payload : List Byte) (place : Nat) (field : List Byte) : Prop :=
  (payload.drop place).take field.length = field

/-- A field of a section stands in the payload as far on as the section does. -/
theorem ShownAt.of_section {before part after : List Byte} {n place : Nat} {field : List Byte} (hn : before.length = n)
    (h : ShownAt part place field) : ShownAt (before ++ part ++ after) (place + n) field := by
  unfold ShownAt at h ⊢
  have hlength : field.length ≤ (part.drop place).length := by
    have hmin := congrArg List.length h
    rw [List.length_take] at hmin
    omega
  rw [List.append_assoc, List.drop_append, hn, Nat.add_sub_cancel, List.drop_of_length_le (by omega), List.nil_append]
  by_cases hp : place ≤ part.length
  · rw [List.drop_append_of_le_length hp, List.take_append_of_le_length hlength, h]
  · have hfield : field = [] := List.eq_nil_of_length_eq_zero (by rw [List.length_drop] at hlength; omega)
    rw [hfield]
    rfl

/-! ## The bytes shown -/

theorem shown_eq (b : Bool) : shown b = flagByte b := by
  cases b <;> rfl

theorem shownOptional_eq (x : Option Int) : shownOptional x = optionalSigned x := by
  cases x <;> rfl

theorem shownMarks_eq (m : Marks) : shownMarks m = marksBytes m := by
  simp only [shownMarks, marksBytes, shown_eq]

/-- The two halves of a four-byte value (10.1). -/
theorem fourBytes_eq {w : BitVec 32} {hi lo : Word} (h : hi.toNat * 65536 + lo.toNat = w.toNat) :
    wordBytes hi ++ wordBytes lo = fourBytes w := by
  have hlow := lo.isLt
  have hhi : hi = w.extractLsb' 16 16 := by
    refine BitVec.eq_of_toNat_eq ?_
    rw [BitVec.extractLsb'_toNat, Nat.shiftRight_eq_div_pow]
    omega
  have hlo : lo = w.extractLsb' 0 16 := by
    refine BitVec.eq_of_toNat_eq ?_
    rw [BitVec.extractLsb'_toNat, Nat.shiftRight_zero]
    omega
  rw [hhi, hlo]
  rfl

theorem shownLong_eq (n : Nat) : shownLong n = longQuantity n := by
  refine fourBytes_eq ?_
  simp only [BitVec.toNat_ofNat]
  omega

theorem quantity_eq (n : Nat) : wordBytes (BitVec.ofNat 16 n) = quantity n := by
  rfl

theorem signedQuantity_eq (x : Int) : wordBytes (BitVec.ofInt 16 x) = signedQuantity x := by
  rfl

theorem optionalSigned_natCast (x : Option Nat) : optionalSigned (x.map Int.ofNat) = optionalQuantity x := by
  cases x with
  | none => rfl
  | some n => exact congrArg (1#8 :: wordBytes ·) (BitVec.ofInt_natCast 16 n)

theorem fourBytes_ofInt (x : Int) :
    signedQuantity (x / 65536) ++ signedQuantity x = fourBytes (BitVec.ofInt 32 x) := by
  refine fourBytes_eq ?_
  simp only [BitVec.toNat_ofInt]
  omega

/-! ## The sections -/

theorem byteOf_length (n : Nat) : (byteOf n).length = 1 := by
  rfl

theorem flagByte_length (b : Bool) : (flagByte b).length = 1 := by
  rfl

theorem codeByte_length (c : Config.Coded) : (codeByte c).length = 1 := by
  rfl

theorem freshnessByte_length (t : Timer) : (freshnessByte t).length = 1 := by
  rfl

theorem quantity_length (n : Nat) : (quantity n).length = 2 := by
  rfl

theorem signedQuantity_length (x : Int) : (signedQuantity x).length = 2 := by
  rfl

theorem timeBytes_length (t : Timer) : (timeBytes t).length = 2 := by
  rfl

theorem fourBytes_length (w : BitVec 32) : (fourBytes w).length = 4 := by
  rfl

theorem longQuantity_length (n : Nat) : (longQuantity n).length = 4 := by
  rfl

theorem longTimeBytes_length (t : Timer) : (longTimeBytes t).length = 4 := by
  rfl

theorem optionalSigned_length (x : Option Int) : (optionalSigned x).length = 3 := by
  rfl

theorem optionalQuantity_length (x : Option Nat) : (optionalQuantity x).length = 3 := by
  rfl

theorem marksBytes_length (m : Marks) : (marksBytes m).length = 6 := by
  simp only [marksBytes, List.length_append, flagByte_length]

theorem zeroPair_length : ([0#8, 0#8] : List Byte).length = 2 := by
  rfl

theorem stationStateByte_length (st : StationState) : (stationStateByte st).length = 1 := by
  cases st <;> rfl

theorem channelBytes_length (c : ChannelData) : (channelBytes c).length = 5 := by
  rfl

theorem stackPlace_length (l : List StackEntry) (i : Nat) : (stackPlace l i).length = 2 := by
  unfold stackPlace
  split <;> rfl

theorem proofBytes_length (p : FanProof) : (proofBytes p).length = 3 := by
  cases p <;> rfl

theorem settingsBytes_length (testing : Bool) (t : TestSettings) : (settingsBytes testing t).length = 9 := by
  rfl

theorem tripPlace_length (ages : List Nat) (i : Nat) : (tripPlace ages i).length = 4 := by
  rfl

theorem controlSection_length (c : Control) : (controlSection c).length = 12 := by
  unfold controlSection
  simp only [List.length_append, stationStateByte_length, codeByte_length, byteOf_length,
    timeBytes_length, longTimeBytes_length, flagByte_length]

theorem sensingSection_length (x : Sensing) : (sensingSection x).length = 26 := by
  unfold sensingSection
  simp only [List.length_append, channelBytes_length, optionalQuantity_length, signedQuantity_length,
    codeByte_length]

theorem peerSection_length (cfg : Settings) (p : Peers) : (peerSection cfg p).length = 33 := by
  unfold peerSection
  simp only [List.length_append, flagByte_length, freshnessByte_length, List.length_singleton,
    signedQuantity_length, timeBytes_length, optionalQuantity_length, optionalSigned_length, codeByte_length,
    quantity_length]

theorem demandSection_length (r : DemandRecord) : (demandSection r).length = 26 := by
  unfold demandSection
  simp only [List.length_append, optionalSigned_length, codeByte_length, signedQuantity_length,
    fourBytes_length, quantity_length, byteOf_length]

theorem shareSection_length (x : Share) : (shareSection x).length = 28 := by
  unfold shareSection
  simp only [List.length_append, byteOf_length, quantity_length, flagByte_length, longQuantity_length,
    timeBytes_length, zeroPair_length]

theorem arbiterSection_length (own : Nat) (table : List Entry) (a : Arbiter) :
    (arbiterSection own table a).length = 38 := by
  unfold arbiterSection
  simp only [List.length_append, byteOf_length, marksBytes_length, stackPlace_length,
    longTimeBytes_length, flagByte_length, timeBytes_length]

theorem outputSection_length (s : State) : (outputSection s).length = 47 := by
  unfold outputSection
  simp only [List.length_append, codeByte_length, byteOf_length, timeBytes_length, proofBytes_length,
    flagByte_length, quantity_length, settingsBytes_length]

theorem interlockSection_length (cfg : Settings) (contactOpen : Bool) (i : Interlock) :
    (interlockSection cfg contactOpen i).length = 39 := by
  unfold interlockSection
  simp only [List.length_append, codeByte_length, timeBytes_length, byteOf_length, tripPlace_length,
    quantity_length]

theorem statusPayload_length (s : State) : (statusPayload s).length = 249 := by
  simp only [statusPayload, List.length_append, controlSection_length, sensingSection_length, peerSection_length,
    demandSection_length, shareSection_length, arbiterSection_length, outputSection_length, interlockSection_length]

/-! ## The fields of each section -/

/-- A field of a run of fields, the first of which stands at 0. -/
theorem ShownAt.skip {first rest : List Byte} {place : Nat} {field : List Byte} (h : first.length ≤ place) :
    ShownAt (first ++ rest) place field ↔ ShownAt rest (place - first.length) field := by
  unfold ShownAt
  rw [List.drop_append, List.drop_of_length_le h, List.nil_append]

theorem ShownAt.here (field rest : List Byte) : ShownAt (field ++ rest) 0 field := by
  unfold ShownAt
  rw [List.drop_zero, List.take_left]

theorem ShownAt.last (field : List Byte) : ShownAt field 0 field := by
  unfold ShownAt
  rw [List.drop_zero, List.take_length]

/-- A field within the first of two parts. -/
theorem ShownAt.enter {part rest : List Byte} {place : Nat} {field : List Byte} (h : place + field.length ≤ part.length) :
    ShownAt (part ++ rest) place field ↔ ShownAt part place field := by
  unfold ShownAt
  rw [List.drop_append_of_le_length (by omega), List.take_append_of_le_length (by rw [List.length_drop]; omega)]

theorem BudgetRecord.offer_eq (cfg : Settings) (r : BudgetRecord) :
    r.offer cfg = if r.silence.isSome = true then r.heard.getD 0 else cfg.blindBudget := by
  unfold BudgetRecord.offer
  cases r.silence <;> rfl

theorem PlantRecord.offer_eq (cfg : Settings) (r : PlantRecord) :
    r.offer cfg = if r.silence = none then cfg.blindCooling else if r.fault = true then 0 else r.capacity.getD 0 := by
  unfold PlantRecord.offer
  cases r.silence <;> rfl

theorem fresh_not (t : Timer) : (!fresh t) = t.isNone := by
  cases t <;> rfl

/-- The first fields of a READ_STATUS payload: section by section, past the fields before each (R173, 10.1). -/
theorem State.statusFront_shown (s : State) : ∀ field ∈ s.statusFront, ShownAt (statusPayload s) field.1 field.2 := by
  simp only [State.statusFront, List.forall_mem_cons, List.not_mem_nil, IsEmpty.forall_iff, implies_true, and_true]
  simp only [shown_eq, shownOptional_eq, shownLong_eq, quantity_eq, signedQuantity_eq, optionalSigned_natCast,
    fourBytes_ofInt]
  simp only [statusPayload, List.append_assoc, ShownAt.skip, ShownAt.enter, controlSection_length,
    sensingSection_length, peerSection_length, demandSection_length, List.length_singleton, quantity_length,
    signedQuantity_length, longQuantity_length, flagByte_length, fourBytes_length, optionalSigned_length,
    optionalQuantity_length, Nat.reduceLeDiff, Nat.reduceAdd, Nat.reduceSub]
  unfold controlSection sensingSection channelBytes peerSection demandSection byteOf timeBytes longTimeBytes freshnessByte
  simp only [List.append_assoc, ShownAt.skip, ShownAt.here, ShownAt.last, stationStateByte_length,
    codeByte_length, List.length_singleton, quantity_length, signedQuantity_length, longQuantity_length,
    flagByte_length, fourBytes_length, optionalSigned_length, optionalQuantity_length, Nat.reduceLeDiff, Nat.reduceSub,
    fresh_not, BudgetRecord.offer_eq, PlantRecord.offer_eq,  and_true, true_and]
  refine ⟨?_, ?_⟩
  · cases s.control.state with
    | starting => rfl
    | running | standby | test => exact ShownAt.here _ _
  · cases s.peers.panel.mode <;> exact ShownAt.here _ _

theorem Output.combinationFault_eq (cfg : Settings) (o : Output) :
    o.combinationFault cfg = decide (o.fanTarget < cfg.fanHeatMin ∧ (0 < o.stagesOn ∨ o.afterRun.isSome)) := by
  simp [Output.combinationFault]

/-- The other fields of a READ_STATUS payload; what a place of the stack and the fan proof show turns on them. -/
theorem State.statusBack_shown (s : State) : ∀ field ∈ s.statusBack, ShownAt (statusPayload s) field.1 field.2 := by
  simp only [State.statusBack, List.forall_mem_cons, List.not_mem_nil, IsEmpty.forall_iff, implies_true, and_true]
  simp only [shown_eq, shownMarks_eq, shownLong_eq, quantity_eq]
  simp only [statusPayload, List.append_assoc, ShownAt.skip, ShownAt.enter, controlSection_length,
    sensingSection_length, peerSection_length, demandSection_length, shareSection_length, arbiterSection_length,
    outputSection_length, List.length_singleton, quantity_length,
    longQuantity_length, flagByte_length, marksBytes_length, zeroPair_length, Nat.reduceLeDiff, Nat.reduceAdd, Nat.reduceSub]
  unfold shareSection arbiterSection outputSection settingsBytes interlockSection byteOf timeBytes longTimeBytes
    tripPlace TestSettings.zero
  simp only [List.append_assoc, ShownAt.skip, ShownAt.here, ShownAt.last, marksBytes_length, stackPlace_length,
    proofBytes_length, codeByte_length, List.length_singleton, quantity_length, longQuantity_length, flagByte_length,
    Nat.reduceLeDiff, Nat.reduceSub, Output.combinationFault_eq, adjacentDoor_eq, beq_iff_eq, and_true, true_and]
  refine ⟨?_, ?_, ?_, ?_, ?_⟩
  · unfold stackPlace
    cases s.arbiter.stack.reverse[0]? <;> exact ShownAt.here _ _
  · unfold stackPlace
    cases s.arbiter.stack.reverse[1]? <;> exact ShownAt.here _ _
  · unfold stackPlace
    cases s.arbiter.stack.reverse[2]? <;> exact ShownAt.here _ _
  · cases s.output.proof <;> simp only [proofBytes, List.append_assoc, ShownAt.here]
  · cases s.output.proof <;>
      simp only [proofBytes, Config.fanProofTime, List.append_assoc, ShownAt.skip, flagByte_length, le_refl, Nat.sub_self,
        ShownAt.here]

/-! ## The configuration values in use -/

theorem ofNat_byte_toNat {n : Nat} (h : n ≤ 255) : (BitVec.ofNat 8 n).toNat = n := by
  rw [BitVec.toNat_ofNat]
  omega

theorem ofInt_byte_toInt {x : Int} (hl : -32 ≤ x) (hh : x ≤ 32) : (BitVec.ofInt 8 x).toInt = x := by
  rw [BitVec.toInt_ofInt, Int.bmod_def]
  omega

theorem quantity_toNat {n : Nat} (h : n ≤ 65535) :
    (wordOf ((BitVec.ofNat 16 n).extractLsb' 8 8) ((BitVec.ofNat 16 n).extractLsb' 0 8)).toNat = n := by
  rw [wordOf_wordBytes, BitVec.toNat_ofNat]
  omega

theorem flagByte_ne_zero (b : Bool) : decide ((BitVec.ofNat 8 (bit b)).toNat ≠ 0) = b := by
  cases b <;> rfl

theorem recordFields_settingsForm {c : Settings} (h : c.InRange) (rest : List Byte) :
    recordFields (settingsForm c ++ rest) = c := by
  unfold recordFields byteAt wordAt signedAt settingsForm flagByte byteOf quantity wordBytes
  simp only [List.cons_append, List.nil_append, List.getD_cons_zero, List.getD_cons_succ]
  simp (disch := omega) only [ofNat_byte_toNat, quantity_toNat, ofInt_byte_toInt, flagByte_ne_zero]
  rw [Nat.div_mul_cancel (Nat.dvd_of_mod_eq_zero (by omega))]

theorem settingsForm_length (c : Settings) : (settingsForm c).length = 38 := by
  unfold settingsForm
  simp only [List.length_append, byteOf_length, quantity_length, flagByte_length, List.length_cons,
    List.length_nil]

/-- The 62 bytes before the flags of a READ_CONFIG payload (10.1). -/
theorem configFields_length (c : Settings) : (settingsForm c ++ (List.range 24).map Config.configFiller).length = 62 := by
  rw [List.length_append, settingsForm_length, List.length_map, List.length_range]

theorem configPayload_length (c : Control) : (configPayload c).length = 63 := by
  unfold configPayload
  rw [List.length_append, configFields_length, byteOf_length]

theorem recordFields_configPayload {c : Control} (h : c.cfg.InRange) : recordFields (configPayload c) = c.cfg := by
  unfold configPayload
  rw [List.append_assoc]
  exact recordFields_settingsForm h _

theorem configPayload_flags (c : Control) :
    (configPayload c).getD 62 0#8 = BitVec.ofNat 8 (bit c.cfgDefault + 2 * bit c.cfgClamped) := by
  unfold configPayload
  rw [List.getD_append_right _ _ _ _ (configFields_length _).le, configFields_length]
  rfl

/-! ## A peer's entry -/

theorem peerPayload_length (e : Entry) : (peerPayload e).length = 17 := by
  rfl

theorem entryFor_number {number : Nat} {table : List Entry} {e : Entry} (h : entryFor number table = some e) :
    e ∈ table ∧ e.number = number :=
  ⟨List.mem_of_find?_eq_some h, by simpa using List.find?_some h⟩

theorem peerPayload_body (e : Entry) : reportBodyOf ((peerPayload e).drop 4) = some e.asReport :=
  reportBodyOf_bytes e.asReport

/-- A power carried in hundreds of watts by a byte (R32, 10.1). -/
theorem hundreds_shown {n : Nat} (h : n ≤ 6000) : 100 * (BitVec.ofNat 8 (n / 100)).toNat = n / 100 * 100 := by
  rw [ofNat_byte_toNat (by omega), Nat.mul_comm]

/-! ## The statement -/

theorem State.answerPeer_of_none {s : State} {n : Nat} (h : entryFor n s.peers.table = none) :
    s.answerPeer n = s.reply .readPeer .notPresent (List.replicate 17 0#8) := by
  unfold State.answerPeer
  rw [h]
  rfl

theorem State.answerPeer_of_some {s : State} {n : Nat} {e : Entry} (h : entryFor n s.peers.table = some e) :
    s.answerPeer n = s.reply .readPeer .ok (peerPayload e) := by
  unfold State.answerPeer
  rw [h]

/-- A sound entry is shown whole by the body of its payload (R45, 10.1). -/
theorem Entry.Sound.asReport_shows {cfg : Settings} {own : Nat} {e : Entry} (h : e.Sound cfg own) :
    100 * e.asReport.dEl.toNat = e.dEl / 100 * 100 ∧ e.asReport.dC.toNat = e.dC
    ∧ 100 * e.asReport.cEl.toNat = e.cEl / 100 * 100 ∧ e.asReport.cC.toNat = e.cC
    ∧ e.asReport.ret.map BitVec.toInt = e.ret ∧ e.asReport.outside.map BitVec.toInt = e.outside := by
  obtain ⟨-, -, -, -, -, -, hdEl, hdC, hcEl, hcC, hret, hout⟩ := h
  exact ⟨hundreds_shown hdEl, ofNat_byte_toNat (by omega), hundreds_shown hcEl, ofNat_byte_toNat (by omega),
    Option.map_toInt_ofInt hret, Option.map_toInt_ofInt hout⟩

/-- Settles O43: each payload field by field, in the order of its sections. -/
theorem readingRequestsAnswered : Obligations.ReadingRequestsAnswered := by
  intro target argument s hs hj
  refine ⟨⟨_, State.judges hj _ _, ?_, ?_, statusPayload_length s, ?_⟩,
    ⟨_, State.judges hj _ _, ?_, ?_, configPayload_length _, recordFields_configPayload ?_, configPayload_flags _⟩,
    ⟨_, State.judges hj _ _, ?_, fun hnone => ?_, fun e he => ?_⟩⟩
  · rfl
  · exact State.answeredFrom rfl s
  · exact fun field hfield => (List.mem_append.mp hfield).elim (s.statusFront_shown field) (s.statusBack_shown field)
  · rfl
  · exact State.answeredFrom rfl s
  · obtain ⟨⟨-, -, hcfg, -⟩, -⟩ := hs
    exact hcfg
  · cases hentry : entryFor argument.toNat s.hears.peers.table with
    | none =>
      rw [State.answerPeer_of_none hentry]
      rfl
    | some e =>
      rw [State.answerPeer_of_some hentry]
      rfl
  · rw [State.answerPeer_of_none (s := s.hears) hnone]
    exact State.answeredFrom rfl s
  · obtain ⟨hmem, hnumber⟩ := entryFor_number he
    obtain ⟨-, -, -, -, ⟨-, hentries, -⟩, -⟩ := hs
    obtain ⟨hdEl, hdC, hcEl, hcC, hret, hout⟩ := (hentries e hmem).asReport_shows
    rw [State.answerPeer_of_some (s := s.hears) he]
    refine ⟨State.answeredFrom rfl s, peerPayload_length e, ?_, wordOf_wordBytes _, e.asReport, peerPayload_body e,
      rfl, rfl, rfl, rfl, hdEl, hdC, hcEl, hcC, hret, hout, rfl⟩
    have hnumberByte : BitVec.ofNat 8 e.number = argument := by
      rw [hnumber]
      exact (BitVec.ofNat_toNat 8 argument).trans (BitVec.setWidth_eq argument)
    rw [← hnumberByte]
    cases hst : e.state <;> simp [peerPayload, byteOf, EntryState.code, hst]

end Sys2Proof.Machine
end
